-- ==== Sys2Proof/Word.lean ====
section
/-! DEFINITION. The words of the CRC-16 Frame Engine: bytes, 16-bit checksum values, 32-bit bus data and the
41-bit transaction word (00_scope.md R6, 20_memory.md R45, 30_encoding.md R55). -/

namespace Sys2Proof

/-- A byte: 8 bits (00_scope.md R6). -/
abbrev Byte := BitVec 8

/-- A 16-bit value: the accumulator, a measurement, a period (00_scope.md R5, R6). -/
abbrev Half := BitVec 16

/-- The bus data width: 32 bits (00_scope.md R5; 20_memory.md R45). -/
abbrev Word := BitVec 32

/-- One transaction word `T`: `WE` in bit 40, `ADDR` in bits 39:32, `WDATA` in bits 31:0 (30_encoding.md R55). -/
abbrev BusWord := BitVec 41

end Sys2Proof
end

