-- ==== Sys2Proof/Config.lean ====
section
/-! DEFINITION. The implementation parameters of 00_scope.md R5. The spec leaves none open, so each is a plain
definition with the spec's value and there is no free value. -/

namespace Sys2Proof.Config

/-- CRC polynomial in reflected form (00_scope.md R5, 40_crc.md R67). -/
def crcPolynomial : Half := 0xA001#16

/-- CRC initial value (00_scope.md R5, 40_crc.md R68). -/
def crcInitial : Half := 0xFFFF#16

/-- `TX_CAP`, the transmit buffer capacity in bytes, and the length of every built frame (00_scope.md R5,
41_frame_builder.md R76). -/
def txCapacity : BitVec 4 := 8#4

/-- `RX_CAP`, the receive buffer capacity in bytes (00_scope.md R5, 42_receive.md R92). -/
def rxCapacity : BitVec 4 := 8#4

/-- The largest legal expected length (00_scope.md R5, 43_parser.md R103). -/
def expLenMax : Word := 8#32

/-- The largest legal calibration period (00_scope.md R5, 41_frame_builder.md R82). -/
def periodMax : Word := 0xFFFF#32

/-- The first byte of the big-endian measurement (00_scope.md R5, 43_parser.md R108). -/
def measurementOffset : Nat := 3

/-- The minimum decodable measurement response, in bytes (00_scope.md R5, 43_parser.md R108). -/
def minMeasurement : Nat := 5

end Sys2Proof.Config
end

