-- ==== Sys2Proof/Machine/Checksum.lean ====
section
/-! DEFINITION. The byte-order helpers (00_scope.md R6, R7) and the checksum function (40_crc.md R67 to R69), pure, shared by
the CRC engine, the builder and the parser. -/

namespace Sys2Proof.Machine

/-- The low byte `w[7:0]` of a 16-bit value (00_scope.md R6). -/
def loByte (w : Half) : Byte := w.extractLsb' 0 8

/-- The high byte `w[15:8]` of a 16-bit value (00_scope.md R6). -/
def hiByte (w : Half) : Byte := w.extractLsb' 8 8

/-- One of the 8 steps of `crc16_step`: a logical right shift, then an XOR with the polynomial where bit 0 was set
before the shift (40_crc.md R67). -/
def crcShift (a : Half) : Half :=
  if a.getLsbD 0 then (a >>> 1) ^^^ Config.crcPolynomial else a >>> 1

/-- `n` of those steps. -/
def crcShifts : Nat → Half → Half
  | 0, a => a
  | n + 1, a => crcShifts n (crcShift a)

/-- `crc16_step(acc, b)`: XOR into the low byte, then 8 steps (40_crc.md R67). -/
def crc16Step (acc : Half) (b : Byte) : Half := crcShifts 8 (acc ^^^ b.setWidth 16)

/-- The bytes of `s` folded into an accumulator, in order (40_crc.md R68, R70 (b)). -/
def crc16From (acc : Half) (s : List Byte) : Half := s.foldl crc16Step acc

/-- `crc16(s)` (40_crc.md R68). -/
def crc16 (s : List Byte) : Half := crc16From Config.crcInitial s

/-- `trailer(s)`: the wire form, least significant byte first (40_crc.md R69). -/
def trailer (s : List Byte) : List Byte := [loByte (crc16 s), hiByte (crc16 s)]

/-- `be16`: the 16-bit value of two bytes, the first the more significant (00_scope.md R7). -/
def be16 (first second : Byte) : Half := first ++ second

/-- `le16`: the 16-bit value of two bytes, the first the less significant (00_scope.md R7). -/
def le16 (first second : Byte) : Half := second ++ first

end Sys2Proof.Machine
end

