-- ==== Sys2Proof/Machine/Operands.lean ====
section
/-! DEFINITION. Operand assembly from `WDATA` (30_encoding.md R56): no operand is sign-extended, scaled or shifted. -/

namespace Sys2Proof.Machine

/-- `WDATA[0]`, the operand of CTRL.WR; `WDATA[31:1]` is ignored (30_encoding.md R56). -/
def bitOperand (wdata : Word) : Bool := wdata.getLsbD 0

/-- `WDATA[7:0]`, the operand of CRC.BYTE and RX.PUSH; `WDATA[31:8]` is ignored (30_encoding.md R56). -/
def byteOperand (wdata : Word) : Byte := wdata.extractLsb' 0 8

/-- `WDATA[15:0]`, the period of BUILD.SETCAL (30_encoding.md R56). -/
def periodOperand (wdata : Word) : Half := wdata.extractLsb' 0 16

/-- `WDATA[3:0]`, the length of EXPLEN.WR (30_encoding.md R56). -/
def lengthOperand (wdata : Word) : BitVec 4 := wdata.extractLsb' 0 4

/-- The range check of TX_SETCAL, on all 32 bits (41_frame_builder.md R82). -/
def periodLegal (wdata : Word) : Bool := decide (wdata ≤ Config.periodMax)

/-- The range check of EXP_LEN, on all 32 bits (43_parser.md R103). -/
def lengthLegal (wdata : Word) : Bool := decide (wdata ≤ Config.expLenMax)

end Sys2Proof.Machine
end

