-- ==== Sys2Proof/Syntax.lean ====
section
/-! DEFINITION. The syntax of the CFE: its 19 registers, the causes of a bus error, the parse modes and the 25
operations of 30_encoding.md R58 (one constructor per row of the opcode table). -/

namespace Sys2Proof

/-- The 19 registers of the window (10_state.md R19). -/
inductive RegName where
  | ctrl | crcInit | crcData | crcValue | txBuild | txSetcal | txLen | txData0 | txData1 | expLen
  | rxClear | rxData | rxStatus | rxBuf0 | rxBuf1 | parse | result | value | errInfo
  deriving DecidableEq, Repr

/-- The access type of a register (10_state.md R19). -/
inductive Access where
  /-- Readable and writable. -/
  | rw
  /-- Read-only: a write is an error. -/
  | ro
  /-- Write-only: a read is an error. -/
  | wo
  deriving DecidableEq, Repr

/-- The causes of a bus error (60_exceptions.md R125), a closed set. -/
inductive BusCause where
  /-- CAUSE 1: a word-aligned offset 0x4C to 0xFC. -/
  | unmapped
  /-- CAUSE 2: `ADDR[1:0] ≠ 0`. -/
  | misaligned
  /-- CAUSE 3: a write to a read-only register or a read of a write-only one. -/
  | wrongDirection
  /-- CAUSE 4: a selector that TX_BUILD or PARSE does not have. -/
  | illegalCommand
  /-- CAUSE 5: a TX_SETCAL or EXP_LEN value out of range. -/
  | invalidParameter
  deriving DecidableEq, Repr

/-- The mode of a PARSE (10_state.md R17, R36 `RES_MODE`). -/
inductive ParseMode where
  /-- Mode 0, a measurement response. -/
  | measurement
  /-- Mode 1, an acknowledgment response. -/
  | acknowledgment
  deriving DecidableEq, Repr

/-- The 25 operations (30_encoding.md R58). An operand holds the bits of `WDATA` the operation uses (R56); the two
operations whose WHOLE data word is range-checked hold all 32 bits (41_frame_builder.md R82, 43_parser.md R103). -/
inductive Instr where
  /-- CTRL.RD (43_parser.md R100). -/
  | ctrlRd
  /-- CTRL.WR: `WDATA[0]` (43_parser.md R101). -/
  | ctrlWr (en : Bool)
  /-- CRC.INIT (40_crc.md R72). -/
  | crcInit
  /-- CRC.BYTE: `WDATA[7:0]` (40_crc.md R73). -/
  | crcByte (b : Byte)
  /-- CRC.RD (40_crc.md R74). -/
  | crcRd
  /-- BUILD.READ (41_frame_builder.md R79). -/
  | buildRead
  /-- BUILD.DISABLE (41_frame_builder.md R80). -/
  | buildDisable
  /-- BUILD.GETCAL (41_frame_builder.md R81). -/
  | buildGetcal
  /-- BUILD.SETCAL: the whole `WDATA`, legal up to 0xFFFF (41_frame_builder.md R82). -/
  | buildSetcal (wdata : Word)
  /-- TXLEN.RD (41_frame_builder.md R83). -/
  | txlenRd
  /-- TXDATA0.RD (41_frame_builder.md R84). -/
  | txdata0Rd
  /-- TXDATA1.RD (41_frame_builder.md R85). -/
  | txdata1Rd
  /-- EXPLEN.RD (43_parser.md R102). -/
  | explenRd
  /-- EXPLEN.WR: the whole `WDATA`, legal up to 8 (43_parser.md R103). -/
  | explenWr (wdata : Word)
  /-- RX.CLEAR (42_receive.md R91). -/
  | rxClear
  /-- RX.PUSH: `WDATA[7:0]` (42_receive.md R92). -/
  | rxPush (b : Byte)
  /-- RXSTAT.RD (42_receive.md R93). -/
  | rxstatRd
  /-- RXBUF0.RD (42_receive.md R94). -/
  | rxbuf0Rd
  /-- RXBUF1.RD (42_receive.md R95). -/
  | rxbuf1Rd
  /-- PARSE.MEAS (43_parser.md R109). -/
  | parseMeas
  /-- PARSE.ACK (43_parser.md R110). -/
  | parseAck
  /-- RESULT.RD (43_parser.md R111). -/
  | resultRd
  /-- VALUE.RD (43_parser.md R112). -/
  | valueRd
  /-- ERR.RD (44_error_register.md R120). -/
  | errRd
  /-- ERR.CLEAR (44_error_register.md R121). -/
  | errClear
  deriving DecidableEq, Repr

end Sys2Proof
end

