-- ==== Sys2Proof/WellFormed.lean ====
section
/-! DEFINITION. Well-formed instructions: the range checks of 30_encoding.md R56 on the two operations whose whole
data word is checked. The decoder yields well-formed instructions only; the meanings raise the bus error of
41_frame_builder.md R82 and 43_parser.md R103 on the others. -/

namespace Sys2Proof

/-- `WDATA[31:16]` must be 0 for BUILD.SETCAL and `WDATA ≤ 8` for EXPLEN.WR (30_encoding.md R56); every value of every
other operand is legal. -/
def Instr.wellFormed : Instr → Bool
  | .buildSetcal wdata => decide (wdata ≤ Config.periodMax)
  | .explenWr wdata => decide (wdata ≤ Config.expLenMax)
  | .ctrlRd => true
  | .ctrlWr _ => true
  | .crcInit => true
  | .crcByte _ => true
  | .crcRd => true
  | .buildRead => true
  | .buildDisable => true
  | .buildGetcal => true
  | .txlenRd => true
  | .txdata0Rd => true
  | .txdata1Rd => true
  | .explenRd => true
  | .rxClear => true
  | .rxPush _ => true
  | .rxstatRd => true
  | .rxbuf0Rd => true
  | .rxbuf1Rd => true
  | .parseMeas => true
  | .parseAck => true
  | .resultRd => true
  | .valueRd => true
  | .errRd => true
  | .errClear => true

end Sys2Proof
end

