-- ==== Sys2Proof/Decode.lean ====
section
/-! DEFINITION. The transaction word (30_encoding.md R55), the register map (10_state.md R19), the decoder of R57, the
encoder, and the opcode table of R58 as data. The decoder is total: every 41-bit word yields one instruction or one
error cause. -/

namespace Sys2Proof

/-! ### The transaction word -/

/-- Bit 40: 1 for a write, 0 for a read (30_encoding.md R55). -/
def BusWord.we (t : BusWord) : Bool := t.getLsbD 40

/-- Bits 39:32: the byte offset in the register window (30_encoding.md R55). -/
def BusWord.addr (t : BusWord) : Byte := t.extractLsb' 32 8

/-- Bits 31:0: the write data (30_encoding.md R55). -/
def BusWord.wdata (t : BusWord) : Word := t.extractLsb' 0 32

/-- The word with these three fields (30_encoding.md R55). -/
def transaction (we : Bool) (addr : Byte) (wdata : Word) : BusWord := BitVec.ofBool we ++ addr ++ wdata

/-- `MemRead(addr, 4)`, with the canonical data 0 of a read (00_scope.md R8, 30_encoding.md R55). -/
def memRead (addr : Byte) : BusWord := transaction false addr 0#32

/-- `MemWrite(addr, 4, v)` (00_scope.md R8). -/
def memWrite (addr : Byte) (v : Word) : BusWord := transaction true addr v

/-! ### The register map -/

/-- The byte offset of a register (10_state.md R19). -/
def RegName.offset : RegName → Byte
  | .ctrl => 0x00#8
  | .crcInit => 0x04#8
  | .crcData => 0x08#8
  | .crcValue => 0x0C#8
  | .txBuild => 0x10#8
  | .txSetcal => 0x14#8
  | .txLen => 0x18#8
  | .txData0 => 0x1C#8
  | .txData1 => 0x20#8
  | .expLen => 0x24#8
  | .rxClear => 0x28#8
  | .rxData => 0x2C#8
  | .rxStatus => 0x30#8
  | .rxBuf0 => 0x34#8
  | .rxBuf1 => 0x38#8
  | .parse => 0x3C#8
  | .result => 0x40#8
  | .value => 0x44#8
  | .errInfo => 0x48#8

/-- The access type of a register (10_state.md R19). -/
def RegName.access : RegName → Access
  | .ctrl => .rw
  | .crcInit => .wo
  | .crcData => .wo
  | .crcValue => .ro
  | .txBuild => .wo
  | .txSetcal => .wo
  | .txLen => .ro
  | .txData0 => .ro
  | .txData1 => .ro
  | .expLen => .rw
  | .rxClear => .wo
  | .rxData => .wo
  | .rxStatus => .ro
  | .rxBuf0 => .ro
  | .rxBuf1 => .ro
  | .parse => .wo
  | .result => .ro
  | .value => .ro
  | .errInfo => .rw

/-- All registers, in the order of their offsets (10_state.md R19). -/
def RegName.all : List RegName :=
  [.ctrl, .crcInit, .crcData, .crcValue, .txBuild, .txSetcal, .txLen, .txData0, .txData1, .expLen, .rxClear, .rxData,
   .rxStatus, .rxBuf0, .rxBuf1, .parse, .result, .value, .errInfo]

/-- The register at a byte offset, if one is mapped there (10_state.md R19). -/
def registerAt (addr : Byte) : Option RegName := RegName.all.find? (fun r => r.offset == addr)

/-! ### The decoder -/

/-- The read instruction of a register; a read of a write-only register is WRONG_DIRECTION (30_encoding.md R57, R58). -/
def decodeRead : RegName → Except BusCause Instr
  | .ctrl => .ok .ctrlRd
  | .crcValue => .ok .crcRd
  | .txLen => .ok .txlenRd
  | .txData0 => .ok .txdata0Rd
  | .txData1 => .ok .txdata1Rd
  | .expLen => .ok .explenRd
  | .rxStatus => .ok .rxstatRd
  | .rxBuf0 => .ok .rxbuf0Rd
  | .rxBuf1 => .ok .rxbuf1Rd
  | .result => .ok .resultRd
  | .value => .ok .valueRd
  | .errInfo => .ok .errRd
  | .crcInit => .error .wrongDirection
  | .crcData => .error .wrongDirection
  | .txBuild => .error .wrongDirection
  | .txSetcal => .error .wrongDirection
  | .rxClear => .error .wrongDirection
  | .rxData => .error .wrongDirection
  | .parse => .error .wrongDirection

/-- TX_BUILD: the whole data word selects the frame (10_state.md R24, 30_encoding.md R57). -/
def decodeTxBuild (d : Word) : Except BusCause Instr :=
  if d = 0#32 then .ok .buildRead
  else if d = 1#32 then .ok .buildDisable
  else if d = 2#32 then .ok .buildGetcal
  else .error .illegalCommand

/-- PARSE: the whole data word selects the mode (10_state.md R35, 30_encoding.md R57). -/
def decodeParse (d : Word) : Except BusCause Instr :=
  if d = 0#32 then .ok .parseMeas
  else if d = 1#32 then .ok .parseAck
  else .error .illegalCommand

/-- TX_SETCAL: the range is checked on all 32 bits (30_encoding.md R57). -/
def decodeTxSetcal (d : Word) : Except BusCause Instr :=
  if Machine.periodLegal d then .ok (.buildSetcal d) else .error .invalidParameter

/-- EXP_LEN: the range is checked on all 32 bits (30_encoding.md R57). -/
def decodeExpLen (d : Word) : Except BusCause Instr :=
  if Machine.lengthLegal d then .ok (.explenWr d) else .error .invalidParameter

/-- The write instruction of a register; a write to a read-only register is WRONG_DIRECTION (30_encoding.md R57, R58). -/
def decodeWrite (r : RegName) (d : Word) : Except BusCause Instr :=
  match r with
  | .ctrl => .ok (.ctrlWr (Machine.bitOperand d))
  | .crcInit => .ok .crcInit
  | .crcData => .ok (.crcByte (Machine.byteOperand d))
  | .txBuild => decodeTxBuild d
  | .txSetcal => decodeTxSetcal d
  | .expLen => decodeExpLen d
  | .rxClear => .ok .rxClear
  | .rxData => .ok (.rxPush (Machine.byteOperand d))
  | .parse => decodeParse d
  | .errInfo => .ok .errClear
  | .crcValue => .error .wrongDirection
  | .txLen => .error .wrongDirection
  | .txData0 => .error .wrongDirection
  | .txData1 => .error .wrongDirection
  | .rxStatus => .error .wrongDirection
  | .rxBuf0 => .error .wrongDirection
  | .rxBuf1 => .error .wrongDirection
  | .result => .error .wrongDirection
  | .value => .error .wrongDirection

/-- The decoder, from the three fields, in the check order of 30_encoding.md R57: alignment, then the map, then the
direction, then the data. For an aligned offset, `registerAt` finds none exactly when it is above 0x48. -/
def decodeFields (we : Bool) (addr : Byte) (d : Word) : Except BusCause Instr :=
  if addr.extractLsb' 0 2 ≠ 0#2 then .error .misaligned
  else
    match registerAt addr with
    | none => .error .unmapped
    | some r => if we then decodeWrite r d else decodeRead r

/-- `decode(T)` (30_encoding.md R57). -/
def decode (t : BusWord) : Except BusCause Instr := decodeFields t.we t.addr t.wdata

/-- The transaction word a table word stands for: its lowest `nbits` bits, of which the 41 bits of `T` count
(30_encoding.md R55; log entry 4). The hardware stores no words, so there is no byte order to apply. -/
def tableBusWord (nbits w : Nat) : BusWord := BitVec.ofNat 41 (w % 2 ^ nbits)

/-- The instruction the decoder reads from a word numbered as the opcode table numbers it. -/
def decodeTableWord (nbits w : Nat) : Option Instr :=
  match decode (tableBusWord nbits w) with
  | .ok i => some i
  | .error _ => none

/-! ### The encoder -/

/-- A data word whose only set bit can be bit 0. -/
def bitData (b : Bool) : Word := if b then 1#32 else 0#32

/-- The canonical word of an instruction: ignored data bits are 0 (30_encoding.md R55, R58). -/
def encode : Instr → BusWord
  | .ctrlRd => memRead 0x00#8
  | .ctrlWr en => memWrite 0x00#8 (bitData en)
  | .crcInit => memWrite 0x04#8 0#32
  | .crcByte b => memWrite 0x08#8 (b.setWidth 32)
  | .crcRd => memRead 0x0C#8
  | .buildRead => memWrite 0x10#8 0#32
  | .buildDisable => memWrite 0x10#8 1#32
  | .buildGetcal => memWrite 0x10#8 2#32
  | .buildSetcal wdata => memWrite 0x14#8 wdata
  | .txlenRd => memRead 0x18#8
  | .txdata0Rd => memRead 0x1C#8
  | .txdata1Rd => memRead 0x20#8
  | .explenRd => memRead 0x24#8
  | .explenWr wdata => memWrite 0x24#8 wdata
  | .rxClear => memWrite 0x28#8 0#32
  | .rxPush b => memWrite 0x2C#8 (b.setWidth 32)
  | .rxstatRd => memRead 0x30#8
  | .rxbuf0Rd => memRead 0x34#8
  | .rxbuf1Rd => memRead 0x38#8
  | .parseMeas => memWrite 0x3C#8 0#32
  | .parseAck => memWrite 0x3C#8 1#32
  | .resultRd => memRead 0x40#8
  | .valueRd => memRead 0x44#8
  | .errRd => memRead 0x48#8
  | .errClear => memWrite 0x48#8 0#32

/-! ### The opcode table as data -/

/-- One row of the opcode map: a word `T` selects the row when `T & mask = match` (30_encoding.md R58). -/
structure OpcodeRow where
  mnemonic : String
  pattern : BusWord
  mask : BusWord
  deriving DecidableEq, Repr

/-- Whether a word selects the row (30_encoding.md R58). -/
def OpcodeRow.selects (row : OpcodeRow) (t : BusWord) : Bool := t &&& row.mask == row.pattern

/-- The rows of the plain registers: the mask covers `WE` and `ADDR` (30_encoding.md R58). -/
def addressMask : BusWord := 0x1FF00000000#41

/-- The rows a selector value chooses: the mask covers the whole word (30_encoding.md R58). -/
def wholeMask : BusWord := 0x1FFFFFFFFFF#41

/-- The row of an instruction, written from the table of 30_encoding.md R58. -/
def Instr.row : Instr → OpcodeRow
  | .ctrlRd => ⟨"CTRL.RD", 0x00000000000#41, addressMask⟩
  | .ctrlWr _ => ⟨"CTRL.WR", 0x10000000000#41, addressMask⟩
  | .crcInit => ⟨"CRC.INIT", 0x10400000000#41, addressMask⟩
  | .crcByte _ => ⟨"CRC.BYTE", 0x10800000000#41, addressMask⟩
  | .crcRd => ⟨"CRC.RD", 0x00C00000000#41, addressMask⟩
  | .buildRead => ⟨"BUILD.READ", 0x11000000000#41, wholeMask⟩
  | .buildDisable => ⟨"BUILD.DISABLE", 0x11000000001#41, wholeMask⟩
  | .buildGetcal => ⟨"BUILD.GETCAL", 0x11000000002#41, wholeMask⟩
  | .buildSetcal _ => ⟨"BUILD.SETCAL", 0x11400000000#41, addressMask⟩
  | .txlenRd => ⟨"TXLEN.RD", 0x01800000000#41, addressMask⟩
  | .txdata0Rd => ⟨"TXDATA0.RD", 0x01C00000000#41, addressMask⟩
  | .txdata1Rd => ⟨"TXDATA1.RD", 0x02000000000#41, addressMask⟩
  | .explenRd => ⟨"EXPLEN.RD", 0x02400000000#41, addressMask⟩
  | .explenWr _ => ⟨"EXPLEN.WR", 0x12400000000#41, addressMask⟩
  | .rxClear => ⟨"RX.CLEAR", 0x12800000000#41, addressMask⟩
  | .rxPush _ => ⟨"RX.PUSH", 0x12C00000000#41, addressMask⟩
  | .rxstatRd => ⟨"RXSTAT.RD", 0x03000000000#41, addressMask⟩
  | .rxbuf0Rd => ⟨"RXBUF0.RD", 0x03400000000#41, addressMask⟩
  | .rxbuf1Rd => ⟨"RXBUF1.RD", 0x03800000000#41, addressMask⟩
  | .parseMeas => ⟨"PARSE.MEAS", 0x13C00000000#41, wholeMask⟩
  | .parseAck => ⟨"PARSE.ACK", 0x13C00000001#41, wholeMask⟩
  | .resultRd => ⟨"RESULT.RD", 0x04000000000#41, addressMask⟩
  | .valueRd => ⟨"VALUE.RD", 0x04400000000#41, addressMask⟩
  | .errRd => ⟨"ERR.RD", 0x04800000000#41, addressMask⟩
  | .errClear => ⟨"ERR.CLEAR", 0x14800000000#41, addressMask⟩

/-- One instruction of each row, in the table's order (30_encoding.md R58). -/
def tableOrder : List Instr :=
  [.ctrlRd, .ctrlWr false, .crcInit, .crcByte 0#8, .crcRd, .buildRead, .buildDisable, .buildGetcal, .buildSetcal 0#32,
   .txlenRd, .txdata0Rd, .txdata1Rd, .explenRd, .explenWr 0#32, .rxClear, .rxPush 0#8, .rxstatRd, .rxbuf0Rd,
   .rxbuf1Rd, .parseMeas, .parseAck, .resultRd, .valueRd, .errRd, .errClear]

/-- The opcode table (30_encoding.md R58). -/
def opcodeTable : List OpcodeRow := tableOrder.map Instr.row

/-- The canonical mnemonic of an instruction (30_encoding.md R58, R63). -/
def Instr.mnemonic (i : Instr) : String := i.row.mnemonic

end Sys2Proof
end

