-- ==== Sys2Proof/Machine/State.lean ====
section
/-! DEFINITION. The state of the CFE: the 17 elements of 10_state.md R17, all of them plain data, and two fields of the
model's own (the host's pending bus events and the response the last step drove). -/

namespace Sys2Proof.Machine

/-- An 8-byte array, TX_BUF or RX_BUF, byte 0 first on the wire (10_state.md R17, R40). -/
structure Buf8 where
  b0 : Byte
  b1 : Byte
  b2 : Byte
  b3 : Byte
  b4 : Byte
  b5 : Byte
  b6 : Byte
  b7 : Byte
  deriving DecidableEq, Repr

/-- `RES_CODE` (43_parser.md R104); the codes 5 to 7 are never produced, so the type has no name for them. -/
inductive ResultCode where
  /-- 0: no PARSE since reset. -/
  | none
  /-- 1: the response passed every check that applies. -/
  | ok
  /-- 2: zero bytes received. -/
  | noResponse
  /-- 3: wrong length, overflow, or a measurement shorter than 5 bytes. -/
  | malformedLength
  /-- 4: right length, wrong checksum trailer, with checking enabled. -/
  | malformedCrc
  deriving DecidableEq, Repr

/-- `resp` of a transaction (20_memory.md R45). -/
inductive Resp where
  | ok
  | err
  deriving DecidableEq, Repr

/-- What a transaction answers on the bus (20_memory.md R45). -/
structure Response where
  resp : Resp
  rdata : Word
  deriving DecidableEq, Repr

/-- What the host can do to the CFE next: issue one transaction (20_memory.md R45), or reset it between transactions
(70_reset_and_hazards.md R143). Log entries 1 and 2. -/
inductive BusEvent where
  | transaction (t : BusWord)
  | reset
  deriving DecidableEq, Repr

/-- The machine's state. The first 17 fields are 10_state.md R17, in its order; `pending` and `response` are the model's
own view of the bus (log entries 1 and 3). -/
structure State where
  /-- `CHK_EN`: the parser checks checksums. -/
  chkEn : Bool
  /-- `ACC`: the CRC engine's accumulator. -/
  acc : Half
  /-- `TX_BUF[0..7]`: the built command frame. -/
  txBuf : Buf8
  /-- `TX_LEN`: valid bytes in TX_BUF, 0 or 8. -/
  txLen : BitVec 4
  /-- `EXP_LEN`: expected response length, 0 to 8. -/
  expLen : BitVec 4
  /-- `RX_BUF[0..7]`: the received bytes. -/
  rxBuf : Buf8
  /-- `RX_COUNT`: bytes held in RX_BUF, 0 to 8. -/
  rxCount : BitVec 4
  /-- `RX_OVF`: sticky overflow. -/
  rxOvf : Bool
  /-- `RES_CODE` of the last PARSE. -/
  resCode : ResultCode
  /-- `RES_LEN_OK` of the last PARSE. -/
  resLenOk : Bool
  /-- `RES_CRC_OK` of the last PARSE. -/
  resCrcOk : Bool
  /-- `RES_ECHO_EQ` of the last PARSE. -/
  resEchoEq : Bool
  /-- `RES_MODE` of the last PARSE. -/
  resMode : ParseMode
  /-- `VALUE`: the decoded measurement. -/
  value : Half
  /-- `ERR_CAUSE`: the cause of the last bus error, if any is recorded. -/
  errCause : Option BusCause
  /-- `ERR_ADDR`: its byte offset. -/
  errAddr : Byte
  /-- `ERR_WE`: whether it was a write. -/
  errWe : Bool
  /-- MODEL's own: the events the host has yet to issue, in issue order. -/
  pending : List BusEvent
  /-- MODEL's own: what the last step drove on the bus, nothing where it ended no transaction. -/
  response : Option Response
  deriving DecidableEq, Repr

/-- No operation of the CFE stops the machine: "There is no double-fault, lock-up, halted or stuck state. Every
transaction terminates with `OK` or `ERR`" (60_exceptions.md R131). So no fault exists, which is safe. -/
inductive Fault where
  deriving DecidableEq, Repr

/-- What a step may refuse. -/
inductive Refusal where
  /-- An instruction the model gives no meaning to. No arm of `exec` raises it: every instruction has its meaning. It
  would be safe. -/
  | notModelled (mnemonic : String)
  deriving DecidableEq, Repr

/-- Eight zero bytes. -/
def Buf8.zero : Buf8 := ⟨0#8, 0#8, 0#8, 0#8, 0#8, 0#8, 0#8, 0#8⟩

/-- The state after reset (10_state.md R43, 70_reset_and_hazards.md R143), with no event pending and no response (log
entries 1 and 3). -/
def State.reset : State where
  chkEn := true
  acc := Config.crcInitial
  txBuf := .zero
  txLen := 0#4
  expLen := 0#4
  rxBuf := .zero
  rxCount := 0#4
  rxOvf := false
  resCode := .none
  resLenOk := false
  resCrcOk := false
  resEchoEq := false
  resMode := .measurement
  value := 0#16
  errCause := Option.none
  errAddr := 0#8
  errWe := false
  pending := []
  response := Option.none

end Sys2Proof.Machine
end

