-- ==== Sys2Proof/Machine/Ops.lean ====
section
/-! DEFINITION. The named operations over the state: the byte arrays, the field updates, the response of a
transaction, taking a bus error (60_exceptions.md R126; there is no return from one, R131), and the host's events. -/

namespace Sys2Proof.Machine

/-! ### Byte arrays -/

/-- Byte `i` of an 8-byte array; an index above 7 is no byte of it and reads 0 (log entry 5). -/
def Buf8.get (b : Buf8) (i : Nat) : Byte :=
  match i with
  | 0 => b.b0
  | 1 => b.b1
  | 2 => b.b2
  | 3 => b.b3
  | 4 => b.b4
  | 5 => b.b5
  | 6 => b.b6
  | 7 => b.b7
  | _ => 0#8

/-- The array with byte `i` replaced; an index above 7 is no byte of it and changes nothing. -/
def Buf8.set (b : Buf8) (i : Nat) (v : Byte) : Buf8 :=
  match i with
  | 0 => { b with b0 := v }
  | 1 => { b with b1 := v }
  | 2 => { b with b2 := v }
  | 3 => { b with b3 := v }
  | 4 => { b with b4 := v }
  | 5 => { b with b5 := v }
  | 6 => { b with b6 := v }
  | 7 => { b with b7 := v }
  | _ => b

/-- The 8 bytes, byte 0 first. -/
def Buf8.bytes (b : Buf8) : List Byte := [b.b0, b.b1, b.b2, b.b3, b.b4, b.b5, b.b6, b.b7]

/-- Bytes 0 to 3 packed little-endian (20_memory.md R46). -/
def Buf8.word0 (b : Buf8) : Word := b.b3 ++ b.b2 ++ b.b1 ++ b.b0

/-- Bytes 4 to 7 packed little-endian (20_memory.md R46). -/
def Buf8.word1 (b : Buf8) : Word := b.b7 ++ b.b6 ++ b.b5 ++ b.b4

/-! ### Field updates -/

/-- `CHK_EN <- v`. -/
def State.setChkEn (s : State) (v : Bool) : State := { s with chkEn := v }

/-- `ACC <- v`. -/
def State.setAcc (s : State) (v : Half) : State := { s with acc := v }

/-- `TX_BUF <- f; TX_LEN <- n`. -/
def State.setTx (s : State) (f : Buf8) (n : BitVec 4) : State := { s with txBuf := f, txLen := n }

/-- `EXP_LEN <- v`. -/
def State.setExpLen (s : State) (v : BitVec 4) : State := { s with expLen := v }

/-- `RX_BUF <- f; RX_COUNT <- n`. -/
def State.setRx (s : State) (f : Buf8) (n : BitVec 4) : State := { s with rxBuf := f, rxCount := n }

/-- `RX_OVF <- v`. -/
def State.setRxOvf (s : State) (v : Bool) : State := { s with rxOvf := v }

/-- The five RESULT fields and VALUE, written together (10_state.md R39, 43_parser.md R108). -/
def State.setResult (s : State) (code : ResultCode) (lenOk crcOk echoEq : Bool) (mode : ParseMode) (v : Half) : State :=
  { s with resCode := code, resLenOk := lenOk, resCrcOk := crcOk, resEchoEq := echoEq, resMode := mode, value := v }

/-- The three fields of ERR_INFO, written together (10_state.md R39). -/
def State.setErrInfo (s : State) (cause : Option BusCause) (addr : Byte) (we : Bool) : State :=
  { s with errCause := cause, errAddr := addr, errWe := we }

/-- What the step drives on the bus. -/
def State.setResponse (s : State) (r : Option Response) : State := { s with response := r }

/-- The events the host has yet to issue. -/
def State.setPending (s : State) (p : List BusEvent) : State := { s with pending := p }

/-! ### The response of a transaction, and the bus error -/

/-- `respond(v)`: end a transaction with response OK and read data `v` (00_scope.md R8). -/
def State.respond (s : State) (v : Word) : State := s.setResponse (some ⟨.ok, v⟩)

/-- End a write with response OK; its read data is 0 (20_memory.md R45). -/
def State.acknowledge (s : State) : State := s.respond 0#32

/-- `raise BusError(cause)` on a transaction with this `ADDR` and `WE`: respond ERR with read data 0, record the error
in ERR_INFO, change nothing else (60_exceptions.md R126). There is no return operation: the next transaction is accepted
normally (R131). -/
def State.raiseBusError (s : State) (cause : BusCause) (addr : Byte) (we : Bool) : State :=
  (s.setErrInfo (some cause) addr we).setResponse (some ⟨.err, 0#32⟩)

/-- `build(f, e)`: place a frame and record the response length it expects (41_frame_builder.md R76). -/
def State.build (s : State) (f : Buf8) (e : BitVec 4) : State := (s.setTx f Config.txCapacity).setExpLen e

/-! ### The host's events -/

/-- The next event of the host, and the state without it (20_memory.md R47; log entry 1). -/
def State.takeEvent (s : State) : Option (BusEvent × State) :=
  match s.pending with
  | [] => none
  | e :: rest => some (e, s.setPending rest)

/-- A step in which the host issues nothing: the state persists (60_exceptions.md R138) and the bus carries no
response (log entry 3). -/
def State.idle (s : State) : State := s.setResponse none

/-- The reset event: every element at its reset value, no response (70_reset_and_hazards.md R143). What the host will
issue is the host's and stays (log entry 2). -/
def State.applyReset (s : State) : State := State.reset.setPending s.pending

/-- The state with this transaction word as the host's next event, ahead of what it already had pending. -/
def State.issueNext (s : State) (t : BusWord) : State := s.setPending (.transaction t :: s.pending)

end Sys2Proof.Machine
end

