-- ==== Sys2Proof/Machine/Flags.lean ====
section
/-! DEFINITION. The checks of the parser and the codes of the status fields (43_parser.md R104 to R108, 10_state.md
R36, R38). -/

namespace Sys2Proof.Machine

/-- RESULT.CODE of a verdict (43_parser.md R104). -/
def ResultCode.code : ResultCode → BitVec 3
  | .none => 0#3
  | .ok => 1#3
  | .noResponse => 2#3
  | .malformedLength => 3#3
  | .malformedCrc => 4#3

/-- RESULT.MODE (10_state.md R36). -/
def parseModeBit : ParseMode → Bool
  | .measurement => false
  | .acknowledgment => true

/-- ERR_INFO.CAUSE of a cause (60_exceptions.md R125). -/
def busCauseCode : BusCause → BitVec 3
  | .unmapped => 1#3
  | .misaligned => 2#3
  | .wrongDirection => 3#3
  | .illegalCommand => 4#3
  | .invalidParameter => 5#3

/-- ERR_INFO.CAUSE, 0 where no error is recorded (10_state.md R38). -/
def errCauseCode : Option BusCause → BitVec 3
  | none => 0#3
  | some c => busCauseCode c

/-- The length check (43_parser.md R105). -/
def lenOk (s : State) : Bool := !s.rxOvf && s.rxCount == s.expLen

/-- The covered bytes `RX_BUF[0..n-2)` (43_parser.md R106). -/
def coveredBytes (s : State) : List Byte := s.rxBuf.bytes.take (s.rxCount.toNat - 2)

/-- The received trailer `le16(RX_BUF, n-2)` (43_parser.md R106). -/
def receivedTrailer (s : State) : Half :=
  le16 (s.rxBuf.get (s.rxCount.toNat - 2)) (s.rxBuf.get (s.rxCount.toNat - 1))

/-- The checksum check (43_parser.md R106). -/
def crcOk (s : State) : Bool :=
  !s.rxOvf && decide (2 ≤ s.rxCount.toNat) && crc16 (coveredBytes s) == receivedTrailer s

/-- Whether `RX_BUF[i] = TX_BUF[i]` for all `i < RX_COUNT` (43_parser.md R107). -/
def echoBytesEqual (s : State) : Bool := (List.range s.rxCount.toNat).all fun i => s.rxBuf.get i == s.txBuf.get i

/-- The echo comparison (43_parser.md R107). -/
def echoEq (s : State) : Bool := !s.rxOvf && s.txLen != 0#4 && s.rxCount == s.txLen && echoBytesEqual s

/-- The verdict: the first check that applies decides (43_parser.md R108, 60_exceptions.md R128). -/
def verdict (s : State) (m : ParseMode) : ResultCode :=
  if s.rxCount = 0#4 ∧ s.rxOvf = false then .noResponse
  else if lenOk s = false then .malformedLength
  else if m = .measurement ∧ s.rxCount.toNat < Config.minMeasurement then .malformedLength
  else if s.chkEn = true ∧ crcOk s = false then .malformedCrc
  else .ok

/-- `be16(RX_BUF, 3)` (43_parser.md R108). -/
def measurementOf (s : State) : Half :=
  be16 (s.rxBuf.get Config.measurementOffset) (s.rxBuf.get (Config.measurementOffset + 1))

/-- VALUE after a PARSE: the measurement for an OK verdict in measurement mode, else 0 (43_parser.md R108). -/
def parsedValue (s : State) (m : ParseMode) : Half :=
  if verdict s m = .ok ∧ m = .measurement then measurementOf s else 0#16

end Sys2Proof.Machine
end

