-- ==== Sys2Proof/Machine/Builder.lean ====
section
/-! DEFINITION. The command-frame builder (41_frame_builder.md R76 to R87): BUILD.READ, BUILD.DISABLE, BUILD.GETCAL,
BUILD.SETCAL, and the reads of the built frame. -/

namespace Sys2Proof.Machine

/-- READ_FRAME (41_frame_builder.md R77). -/
def readFrame : Buf8 := ⟨0xFE#8, 0x04#8, 0x00#8, 0x03#8, 0x00#8, 0x01#8, 0xD5#8, 0xC5#8⟩

/-- DISABLE_FRAME (41_frame_builder.md R77). -/
def disableFrame : Buf8 := ⟨0xFE#8, 0x06#8, 0x00#8, 0x1F#8, 0x00#8, 0x00#8, 0xAC#8, 0x03#8⟩

/-- GETCAL_FRAME (41_frame_builder.md R77). -/
def getcalFrame : Buf8 := ⟨0xFE#8, 0x03#8, 0x00#8, 0x1F#8, 0x00#8, 0x01#8, 0xA1#8, 0xC3#8⟩

/-- The six bytes before the trailer of the set-calibration frame (41_frame_builder.md R82). -/
def setcalPrefix (p : Half) : List Byte := [0xFE#8, 0x06#8, 0x00#8, 0x1F#8, hiByte p, loByte p]

/-- The set-calibration frame: the prefix and its trailer, low byte first (41_frame_builder.md R82). -/
def setcalFrame (p : Half) : Buf8 :=
  ⟨0xFE#8, 0x06#8, 0x00#8, 0x1F#8, hiByte p, loByte p, loByte (crc16 (setcalPrefix p)), hiByte (crc16 (setcalPrefix p))⟩

/-- The bytes the host has to transmit, `TX_BUF[0]` to `TX_BUF[TX_LEN-1]` (41_frame_builder.md R87). -/
def transmitBytes (s : State) : List Byte := s.txBuf.bytes.take s.txLen.toNat

/-- BUILD.READ (41_frame_builder.md R78, R79). -/
def execBuildRead (s : State) : Host.Outcome State Fault Refusal := .next (s.build readFrame 7#4).acknowledge

/-- BUILD.DISABLE (41_frame_builder.md R78, R80). -/
def execBuildDisable (s : State) : Host.Outcome State Fault Refusal := .next (s.build disableFrame 8#4).acknowledge

/-- BUILD.GETCAL (41_frame_builder.md R78, R81). -/
def execBuildGetcal (s : State) : Host.Outcome State Fault Refusal := .next (s.build getcalFrame 7#4).acknowledge

/-- BUILD.SETCAL P: an out-of-range data word is the bus error INVALID_PARAMETER on the write to offset 0x14
(41_frame_builder.md R78, R82). -/
def execBuildSetcal (wdata : Word) (s : State) : Host.Outcome State Fault Refusal :=
  if periodLegal wdata then .next (s.build (setcalFrame (periodOperand wdata)) 8#4).acknowledge
  else .next (s.raiseBusError .invalidParameter RegName.txSetcal.offset true)

/-- TXLEN.RD (41_frame_builder.md R83). -/
def execTxlenRd (s : State) : Host.Outcome State Fault Refusal := .next (s.respond (s.txLen.setWidth 32))

/-- TXDATA0.RD (41_frame_builder.md R84). -/
def execTxdata0Rd (s : State) : Host.Outcome State Fault Refusal := .next (s.respond s.txBuf.word0)

/-- TXDATA1.RD (41_frame_builder.md R85). -/
def execTxdata1Rd (s : State) : Host.Outcome State Fault Refusal := .next (s.respond s.txBuf.word1)

end Sys2Proof.Machine
end

