-- ==== Sys2Proof/Machine/CrcEngine.lean ====
section
/-! DEFINITION. The CRC engine operations CRC.INIT, CRC.BYTE and CRC.RD (40_crc.md R72 to R74). -/

namespace Sys2Proof.Machine

/-- CRC.INIT (40_crc.md R72). -/
def execCrcInit (s : State) : Host.Outcome State Fault Refusal := .next (s.setAcc Config.crcInitial).acknowledge

/-- CRC.BYTE b (40_crc.md R73). -/
def execCrcByte (b : Byte) (s : State) : Host.Outcome State Fault Refusal :=
  .next (s.setAcc (crc16Step s.acc b)).acknowledge

/-- CRC.RD (40_crc.md R74). -/
def execCrcRd (s : State) : Host.Outcome State Fault Refusal := .next (s.respond (s.acc.setWidth 32))

end Sys2Proof.Machine
end

