-- ==== Sys2Proof/Machine/ErrorRegister.lean ====
section
/-! DEFINITION. The error-information register (44_error_register.md R120, R121): ERR.RD and ERR.CLEAR. -/

namespace Sys2Proof.Machine

/-- The word of ERR_INFO: WE bit 16, ADDR bits 15:8, CAUSE bits 2:0, the rest 0 (10_state.md R38). -/
def errInfoWord (s : State) : Word :=
  (BitVec.ofBool s.errWe ++ s.errAddr ++ 0#5 ++ errCauseCode s.errCause).setWidth 32

/-- ERR.RD (44_error_register.md R120). -/
def execErrRd (s : State) : Host.Outcome State Fault Refusal := .next (s.respond (errInfoWord s))

/-- ERR.CLEAR (44_error_register.md R121). -/
def execErrClear (s : State) : Host.Outcome State Fault Refusal := .next (s.setErrInfo none 0#8 false).acknowledge

end Sys2Proof.Machine
end

