-- ==== Sys2Proof/Machine/Parser.lean ====
section
/-! DEFINITION. The response-frame parser (43_parser.md R100 to R112): the control registers CTRL and EXP_LEN,
PARSE.MEAS, PARSE.ACK, and the reads of RESULT and VALUE. There is no acknowledgment-success output (R113). -/

namespace Sys2Proof.Machine

/-- `parse(m)`: latch the verdict, the three checks, the mode and the value, and change nothing else (43_parser.md
R108). -/
def parseFrame (s : State) (m : ParseMode) : State :=
  s.setResult (verdict s m) (lenOk s) (crcOk s) (echoEq s) m (parsedValue s m)

/-- The word of RESULT: MODE bit 6, ECHO_EQ bit 5, CRC_OK bit 4, LEN_OK bit 3, CODE bits 2:0 (10_state.md R36). -/
def resultWord (s : State) : Word :=
  (BitVec.ofBool (parseModeBit s.resMode) ++ BitVec.ofBool s.resEchoEq ++ BitVec.ofBool s.resCrcOk
    ++ BitVec.ofBool s.resLenOk ++ s.resCode.code).setWidth 32

/-- CTRL.RD (43_parser.md R100). -/
def execCtrlRd (s : State) : Host.Outcome State Fault Refusal :=
  .next (s.respond ((BitVec.ofBool s.chkEn).setWidth 32))

/-- CTRL.WR (43_parser.md R101). -/
def execCtrlWr (en : Bool) (s : State) : Host.Outcome State Fault Refusal := .next (s.setChkEn en).acknowledge

/-- EXPLEN.RD (43_parser.md R102). -/
def execExplenRd (s : State) : Host.Outcome State Fault Refusal := .next (s.respond (s.expLen.setWidth 32))

/-- EXPLEN.WR L: an out-of-range data word is the bus error INVALID_PARAMETER on the write to offset 0x24
(43_parser.md R103). -/
def execExplenWr (wdata : Word) (s : State) : Host.Outcome State Fault Refusal :=
  if lengthLegal wdata then .next (s.setExpLen (lengthOperand wdata)).acknowledge
  else .next (s.raiseBusError .invalidParameter RegName.expLen.offset true)

/-- PARSE.MEAS (43_parser.md R109). -/
def execParseMeas (s : State) : Host.Outcome State Fault Refusal := .next (parseFrame s .measurement).acknowledge

/-- PARSE.ACK (43_parser.md R110). -/
def execParseAck (s : State) : Host.Outcome State Fault Refusal := .next (parseFrame s .acknowledgment).acknowledge

/-- RESULT.RD (43_parser.md R111). -/
def execResultRd (s : State) : Host.Outcome State Fault Refusal := .next (s.respond (resultWord s))

/-- VALUE.RD (43_parser.md R112). -/
def execValueRd (s : State) : Host.Outcome State Fault Refusal := .next (s.respond (s.value.setWidth 32))

end Sys2Proof.Machine
end

