-- ==== Sys2Proof/Machine/Receive.lean ====
section
/-! DEFINITION. Response reception (42_receive.md R91 to R95): RX.CLEAR, RX.PUSH, RXSTAT.RD, RXBUF0.RD, RXBUF1.RD. -/

namespace Sys2Proof.Machine

/-- Append one received byte, or set the sticky overflow flag where the buffer is full (42_receive.md R92). -/
def pushByte (s : State) (b : Byte) : State :=
  if s.rxCount < Config.rxCapacity then s.setRx (s.rxBuf.set s.rxCount.toNat b) (s.rxCount + 1#4)
  else s.setRxOvf true

/-- The word of RX_STATUS: COUNT in bits 3:0, OVF in bit 4 (10_state.md R32). -/
def rxStatusWord (s : State) : Word := (BitVec.ofBool s.rxOvf ++ s.rxCount).setWidth 32

/-- RX.CLEAR (42_receive.md R91). -/
def execRxClear (s : State) : Host.Outcome State Fault Refusal :=
  .next ((s.setRx Buf8.zero 0#4).setRxOvf false).acknowledge

/-- RX.PUSH b (42_receive.md R92). -/
def execRxPush (b : Byte) (s : State) : Host.Outcome State Fault Refusal := .next (pushByte s b).acknowledge

/-- RXSTAT.RD (42_receive.md R93). -/
def execRxstatRd (s : State) : Host.Outcome State Fault Refusal := .next (s.respond (rxStatusWord s))

/-- RXBUF0.RD (42_receive.md R94). -/
def execRxbuf0Rd (s : State) : Host.Outcome State Fault Refusal := .next (s.respond s.rxBuf.word0)

/-- RXBUF1.RD (42_receive.md R95). -/
def execRxbuf1Rd (s : State) : Host.Outcome State Fault Refusal := .next (s.respond s.rxBuf.word1)

end Sys2Proof.Machine
end

