-- ==== Sys2Proof/Machine/Dispatch.lean ====
section
/-! DEFINITION. The meaning of every instruction: one arm per row of 30_encoding.md R58. -/

namespace Sys2Proof.Machine

def exec (i : Instr) (s : State) : Host.Outcome State Fault Refusal :=
  match i with
  | .ctrlRd => Sys2Proof.Machine.execCtrlRd s
  | .ctrlWr en => Sys2Proof.Machine.execCtrlWr en s
  | .crcInit => Sys2Proof.Machine.execCrcInit s
  | .crcByte b => Sys2Proof.Machine.execCrcByte b s
  | .crcRd => Sys2Proof.Machine.execCrcRd s
  | .buildRead => Sys2Proof.Machine.execBuildRead s
  | .buildDisable => Sys2Proof.Machine.execBuildDisable s
  | .buildGetcal => Sys2Proof.Machine.execBuildGetcal s
  | .buildSetcal wdata => Sys2Proof.Machine.execBuildSetcal wdata s
  | .txlenRd => Sys2Proof.Machine.execTxlenRd s
  | .txdata0Rd => Sys2Proof.Machine.execTxdata0Rd s
  | .txdata1Rd => Sys2Proof.Machine.execTxdata1Rd s
  | .explenRd => Sys2Proof.Machine.execExplenRd s
  | .explenWr wdata => Sys2Proof.Machine.execExplenWr wdata s
  | .rxClear => Sys2Proof.Machine.execRxClear s
  | .rxPush b => Sys2Proof.Machine.execRxPush b s
  | .rxstatRd => Sys2Proof.Machine.execRxstatRd s
  | .rxbuf0Rd => Sys2Proof.Machine.execRxbuf0Rd s
  | .rxbuf1Rd => Sys2Proof.Machine.execRxbuf1Rd s
  | .parseMeas => Sys2Proof.Machine.execParseMeas s
  | .parseAck => Sys2Proof.Machine.execParseAck s
  | .resultRd => Sys2Proof.Machine.execResultRd s
  | .valueRd => Sys2Proof.Machine.execValueRd s
  | .errRd => Sys2Proof.Machine.execErrRd s
  | .errClear => Sys2Proof.Machine.execErrClear s

end Sys2Proof.Machine
end

