-- ==== Sys2Proof/Machine/Step.lean ====
section
/-! DEFINITION. One step of the machine: the host's next event (20_memory.md R47), and the placing of a transaction as
that event. -/

namespace Sys2Proof.Machine

/-- One step: run the host's next transaction, or take its reset, or idle where it issues nothing (20_memory.md R47,
30_encoding.md R57, 60_exceptions.md R126, 70_reset_and_hazards.md R143). -/
def step (s : State) : Host.Outcome State Fault Refusal :=
  match s.takeEvent with
  | none => .next s.idle
  | some (.reset, s') => .next s'.applyReset
  | some (.transaction t, s') =>
    match decode t with
    | .ok i => exec i s'
    | .error cause => .next (s'.raiseBusError cause t.addr t.we)

/-- The state with a table word as the host's next transaction: the CFE fetches nothing (10_state.md R16), so the place
step takes its next instruction from is the head of the host's pending events (log entry 1). -/
def State.withFetchWord (s : State) (nbits w : Nat) : State := s.issueNext (tableBusWord nbits w)

end Sys2Proof.Machine
end

