-- ==== Sys2Proof/Machine/Assembler.lean ====
section
/-! DEFINITION. The assembler syntax of 30_encoding.md R63: one transaction a line, and the disassembler. It lies beside
the machine: no meaning uses it (log entry 9). -/

namespace Sys2Proof.Machine

/-! ### Assembling -/

/-- The name of a register (10_state.md R19). -/
def registerName : RegName → String
  | .ctrl => "CTRL"
  | .crcInit => "CRC_INIT"
  | .crcData => "CRC_DATA"
  | .crcValue => "CRC_VALUE"
  | .txBuild => "TX_BUILD"
  | .txSetcal => "TX_SETCAL"
  | .txLen => "TX_LEN"
  | .txData0 => "TX_DATA0"
  | .txData1 => "TX_DATA1"
  | .expLen => "EXP_LEN"
  | .rxClear => "RX_CLEAR"
  | .rxData => "RX_DATA"
  | .rxStatus => "RX_STATUS"
  | .rxBuf0 => "RX_BUF0"
  | .rxBuf1 => "RX_BUF1"
  | .parse => "PARSE"
  | .result => "RESULT"
  | .value => "VALUE"
  | .errInfo => "ERR_INFO"

/-- The token read so far, if there is one, before the tokens that follow. -/
def flushToken (cur : List Char) (rest : List String) : List String :=
  if cur.isEmpty then rest else String.ofList cur.reverse :: rest

/-- The tokens of a line: blanks separate, a comma is a token, `;` starts a comment (30_encoding.md R63). -/
def lineTokens : List Char → List Char → List String
  | cur, [] => flushToken cur []
  | cur, c :: cs =>
    if c = ';' then flushToken cur []
    else if c = ' ' ∨ c = '\t' then flushToken cur (lineTokens [] cs)
    else if c = ',' then flushToken cur ("," :: lineTokens [] cs)
    else lineTokens (c :: cur) cs

/-- The value of a digit character below a base. -/
def digitValue (base : Nat) (c : Char) : Option Nat :=
  let n := c.toNat
  let v := if 48 ≤ n ∧ n ≤ 57 then n - 48 else if 65 ≤ n ∧ n ≤ 70 then n - 55 else if 97 ≤ n ∧ n ≤ 102 then n - 87 else base
  if v < base then some v else none

/-- The digits of a numeral folded into a value. -/
def readDigits (base : Nat) : Nat → List Char → Option Nat
  | acc, [] => some acc
  | acc, c :: cs =>
    match digitValue base c with
    | some d => readDigits base (acc * base + d) cs
    | none => none

/-- A number, decimal or `0x` hexadecimal (30_encoding.md R63). -/
def readNumber (tok : String) : Option Nat :=
  match tok.toList with
  | [] => none
  | ['0', 'x'] => none
  | '0' :: 'x' :: ds => readDigits 16 0 ds
  | ds => readDigits 10 0 ds

/-- A number below a bound. -/
def readBelow (bound : Nat) (tok : String) : Option Nat :=
  match readNumber tok with
  | some n => if n < bound then some n else none
  | none => none

/-- `<reg>`: a register name or a numeric offset (30_encoding.md R63). -/
def readRegister (tok : String) : Option Byte :=
  match RegName.all.find? (fun r => registerName r == tok) with
  | some r => some r.offset
  | none => (readBelow 256 tok).map (BitVec.ofNat 8)

/-- The mnemonics that take no operand (30_encoding.md R63). -/
def plainMnemonics : List Instr :=
  [.ctrlRd, .crcInit, .crcRd, .buildRead, .buildDisable, .buildGetcal, .txlenRd, .txdata0Rd, .txdata1Rd, .explenRd,
   .rxClear, .rxstatRd, .rxbuf0Rd, .rxbuf1Rd, .parseMeas, .parseAck, .resultRd, .valueRd, .errRd, .errClear]

/-- One line of assembler text, where it holds a transaction of R63's three forms: `RD <reg>`, `WR <reg>, <imm32>`, or a
canonical mnemonic with its operand. -/
def assembleLine (line : String) : Option BusWord :=
  match lineTokens [] line.toList with
  | ["RD", reg] => (readRegister reg).map memRead
  | ["WR", reg, ",", imm] =>
    match readRegister reg, readBelow (2 ^ 32) imm with
    | some addr, some n => some (memWrite addr (BitVec.ofNat 32 n))
    | _, _ => none
  | ["CTRL.WR", bit] => (readBelow 2 bit).map fun n => encode (.ctrlWr (n == 1))
  | ["CRC.BYTE", byte] => (readBelow 256 byte).map fun n => encode (.crcByte (BitVec.ofNat 8 n))
  | ["RX.PUSH", byte] => (readBelow 256 byte).map fun n => encode (.rxPush (BitVec.ofNat 8 n))
  | ["BUILD.SETCAL", period] => (readBelow (2 ^ 32) period).map fun n => encode (.buildSetcal (BitVec.ofNat 32 n))
  | ["EXPLEN.WR", len] => (readBelow (2 ^ 32) len).map fun n => encode (.explenWr (BitVec.ofNat 32 n))
  | [mnemonic] => (plainMnemonics.find? fun i => i.mnemonic == mnemonic).map encode
  | _ => none

/-! ### Disassembling -/

/-- One hexadecimal digit. -/
def hexDigit (n : Nat) : Char := if n < 10 then Char.ofNat (48 + n) else Char.ofNat (55 + n)

/-- The lowest `k` hexadecimal digits of a number, most significant first. -/
def hexDigits : Nat → Nat → List Char
  | 0, _ => []
  | k + 1, n => hexDigits k (n / 16) ++ [hexDigit (n % 16)]

/-- A number as `0x` and `k` hexadecimal digits. -/
def hexText (k n : Nat) : String := "0x" ++ String.ofList (hexDigits k n)

/-- The name of a cause (60_exceptions.md R125). -/
def causeName : BusCause → String
  | .unmapped => "UNMAPPED"
  | .misaligned => "MISALIGNED"
  | .wrongDirection => "WRONG_DIRECTION"
  | .illegalCommand => "ILLEGAL_COMMAND"
  | .invalidParameter => "INVALID_PARAMETER"

/-- The operand text of the five mnemonics that take one, with a blank before it (30_encoding.md R63). -/
def operandText : Instr → String
  | .ctrlWr en => if en then " 1" else " 0"
  | .crcByte b => " " ++ hexText 2 b.toNat
  | .rxPush b => " " ++ hexText 2 b.toNat
  | .buildSetcal wdata => " " ++ hexText 4 wdata.toNat
  | .explenWr wdata => " " ++ hexText 1 wdata.toNat
  | .ctrlRd => ""
  | .crcInit => ""
  | .crcRd => ""
  | .buildRead => ""
  | .buildDisable => ""
  | .buildGetcal => ""
  | .txlenRd => ""
  | .txdata0Rd => ""
  | .txdata1Rd => ""
  | .explenRd => ""
  | .rxClear => ""
  | .rxstatRd => ""
  | .rxbuf0Rd => ""
  | .rxbuf1Rd => ""
  | .parseMeas => ""
  | .parseAck => ""
  | .resultRd => ""
  | .valueRd => ""
  | .errRd => ""
  | .errClear => ""

/-- The canonical mnemonic of a word, or `ILLEGAL(<cause>) <T>` with 11 digits where it selects no row (30_encoding.md
R55, R63). DESIGN CHOICE (log entry 9): a TX_SETCAL or EXP_LEN write whose data is out of range matches its row by R58 and
is listed among the words that select no row by R59; here it prints `ILLEGAL(INVALID_PARAMETER) <T>`. -/
def disassemble (t : BusWord) : String :=
  match decode t with
  | .ok i => i.mnemonic ++ operandText i
  | .error c => "ILLEGAL(" ++ causeName c ++ ") " ++ hexText 11 t.toNat

end Sys2Proof.Machine
end

