-- ==== Sys2Proof/Machine/Pseudo.lean ====
section
/-! DEFINITION. The pseudo-instructions of 30_encoding.md R64 and runs of several operations, one transaction each
(20_memory.md R47). -/

namespace Sys2Proof.Machine

/-- The pseudo-instructions that expand to several transactions (30_encoding.md R64). The one-transaction forms
`RD <reg>` and `WR <reg>, <imm>` are words of their own (Machine/Assembler.lean). -/
inductive Pseudo where
  | crcBytes (bs : List Byte)
  | crcOf (bs : List Byte)
  | rxFrame (bs : List Byte)
  | txFetch
  deriving DecidableEq, Repr

/-- The expansion of a pseudo-instruction (30_encoding.md R64). -/
def expandPseudo : Pseudo → List Instr
  | .crcBytes bs => bs.map Instr.crcByte
  | .crcOf bs => .crcInit :: (bs.map Instr.crcByte ++ [.crcRd])
  | .rxFrame bs => .rxClear :: bs.map Instr.rxPush
  | .txFetch => [.txlenRd, .txdata0Rd, .txdata1Rd]

/-- The operations applied one after the other, each completing before the next begins (20_memory.md R47). -/
def execAll : List Instr → State → Host.Outcome State Fault Refusal
  | [], s => .next s
  | i :: is, s =>
    match exec i s with
    | .next s' => execAll is s'
    | .fault r => .fault r
    | .refused r => .refused r

/-- The bus events by which the host issues these operations, in order. -/
def issueAll (is : List Instr) : List BusEvent := is.map fun i => .transaction (encode i)

/-- The first 8 of these bytes in an array, 0x00 where there are fewer (42_receive.md R92, 10_state.md R18 (f)). -/
def Buf8.ofBytes (bs : List Byte) : Buf8 :=
  ⟨bs.getD 0 0#8, bs.getD 1 0#8, bs.getD 2 0#8, bs.getD 3 0#8, bs.getD 4 0#8, bs.getD 5 0#8, bs.getD 6 0#8, bs.getD 7 0#8⟩

end Sys2Proof.Machine
end

