-- ==== Sys2Proof/Safety.lean ====
section
/-! DEFINITION. What claims about the machine speak of: the invariants of 10_state.md R18, the two stronger facts the
spec states of every built frame and every latched result, and the outcomes of a transaction. -/

namespace Sys2Proof.Machine

/-- The invariants (a) to (i) of 10_state.md R18. -/
structure State.Inv (s : State) : Prop where
  /-- (a) -/
  txLen_zero_or_full : s.txLen = 0#4 ∨ s.txLen = 8#4
  /-- (b) -/
  txBuf_zero_before_build : s.txLen = 0#4 → s.txBuf = Buf8.zero
  /-- (c) -/
  expLen_le : s.expLen.toNat ≤ 8
  /-- (d) -/
  rxCount_le : s.rxCount.toNat ≤ 8
  /-- (e) -/
  overflow_full : s.rxOvf = true → s.rxCount = 8#4
  /-- (f) -/
  rxBuf_zero_beyond : ∀ i, s.rxCount.toNat ≤ i → i < 8 → s.rxBuf.get i = 0#8
  /-- (g) -/
  resCode_le : s.resCode.code.toNat ≤ 4
  /-- (h) -/
  errCause_le : (errCauseCode s.errCause).toNat ≤ 5
  /-- (i) -/
  no_error_no_record : errCauseCode s.errCause = 0#3 → s.errAddr = 0#8 ∧ s.errWe = false

/-- "checksum is always the last two bytes", of every frame in TX_BUF (41_frame_builder.md R87; R85: bits 31:16 of
TX_DATA1 equal the checksum of the six bytes before). -/
def State.BuiltFrameChecked (s : State) : Prop :=
  s.txLen ≠ 0#4 → crc16 (s.txBuf.bytes.take 6) = le16 (s.txBuf.get 6) (s.txBuf.get 7)

/-- What RESULT and VALUE can hold together (10_state.md R36, R37; 43_parser.md R104, R108): no flag and no value before
a PARSE, no checksum or echo verdict on an empty response, LEN_OK with an OK or a bad checksum, a failed length check or
the measurement floor behind MALFORMED_LENGTH, and a value only for an OK measurement. -/
structure State.ResultConsistent (s : State) : Prop where
  none_clear : s.resCode = .none →
    s.resLenOk = false ∧ s.resCrcOk = false ∧ s.resEchoEq = false ∧ s.resMode = .measurement
  noResponse_clear : s.resCode = .noResponse → s.resCrcOk = false ∧ s.resEchoEq = false
  ok_length : s.resCode = .ok → s.resLenOk = true
  badCrc_flags : s.resCode = .malformedCrc → s.resLenOk = true ∧ s.resCrcOk = false
  badLength_reason : s.resCode = .malformedLength → s.resLenOk = false ∨ s.resMode = .measurement
  value_only_ok : s.value ≠ 0#16 → s.resCode = .ok ∧ s.resMode = .measurement

/-- The RESULT fields and VALUE of two states agree (70_reset_and_hazards.md R149). -/
def sameResult (s t : State) : Prop :=
  t.resCode = s.resCode ∧ t.resLenOk = s.resLenOk ∧ t.resCrcOk = s.resCrcOk ∧ t.resEchoEq = s.resEchoEq
    ∧ t.resMode = s.resMode ∧ t.value = s.value

/-- The fields of ERR_INFO of two states agree (10_state.md R39). -/
def sameErrInfo (s t : State) : Prop := t.errCause = s.errCause ∧ t.errAddr = s.errAddr ∧ t.errWe = s.errWe

/-- The read operations (30_encoding.md R58, the rows with `WE` 0). -/
def isReadInstr (i : Instr) : Bool := !(encode i).we

end Sys2Proof.Machine
end

