-- ==== Sys2Proof/Certificates/Slice0/Obligations.lean ====
section
/-! DEFINITION. The statements about the CFE, from the numbered rules of spec/. `transaction we addr d` is the word whose
fields are `WE`, `ADDR`, `WDATA`; a clause over every `d` says that the whole row, or the whole error, is decoded so. The
fields `pending` (log entry 1) and `response` (log entry 3) are the model's own; a statement with a clause about what the
step leaves in `pending` says in its docstring that the clause is the model's choice. -/

open Sys2Proof Sys2Proof.Machine

/-! ### The step -/

/-- 20_memory.md R47: a pending transaction whose word decodes to `i` runs exactly `i`, from the state without it. That
the host's transactions stand in `pending` is the model's choice (log entry 1). -/
def Obligations.StepRunsDecodedInstruction : Prop :=
  ∀ (s : State) (t : BusWord) (rest : List BusEvent) (i : Instr),
    s.pending = .transaction t :: rest → decode t = .ok i → step s = exec i { s with pending := rest }

/-- 60_exceptions.md R126: the next state of a transaction that decodes to an error cause, every field of it. That the
transaction leaves `pending` is the model's choice (log entry 1). -/
def Obligations.BusErrorRecordsOnlyErrInfo : Prop :=
  ∀ (s : State) (t : BusWord) (rest : List BusEvent) (c : BusCause),
    s.pending = .transaction t :: rest → decode t = .error c →
      step s = .next { s with pending := rest, errCause := some c, errAddr := t.addr, errWe := t.we,
                              response := some ⟨.err, 0#32⟩ }

/-- 60_exceptions.md R131 and 20_memory.md R45: a transaction always completes, answers OK or ERR, and its read data is 0
on a write and on every ERR. The clause that it takes exactly its own event from `pending` is the model's choice (log
entry 1, after 20_memory.md R47). -/
def Obligations.EveryTransactionAnswersOkOrErr : Prop :=
  ∀ (s : State) (t : BusWord) (rest : List BusEvent), s.pending = .transaction t :: rest →
    ∃ (s' : State) (r : Response), step s = .next s' ∧ s'.pending = rest ∧ s'.response = some r ∧
      (t.we = true → r.rdata = 0#32) ∧ (r.resp = .err → r.rdata = 0#32)

/-- 10_state.md R43: the reset value of every element. -/
def Obligations.ResetValuesOfEveryElement : Prop :=
  State.reset.chkEn = true ∧ State.reset.acc = 0xFFFF#16 ∧ (∀ i, i < 8 → State.reset.txBuf.get i = 0#8) ∧
    State.reset.txLen = 0#4 ∧ State.reset.expLen = 0#4 ∧ (∀ i, i < 8 → State.reset.rxBuf.get i = 0#8) ∧
    State.reset.rxCount = 0#4 ∧ State.reset.rxOvf = false ∧ State.reset.resCode.code = 0#3 ∧
    State.reset.resLenOk = false ∧ State.reset.resCrcOk = false ∧ State.reset.resEchoEq = false ∧
    State.reset.resMode = .measurement ∧ State.reset.value = 0#16 ∧ errCauseCode State.reset.errCause = 0#3 ∧
    State.reset.errAddr = 0#8 ∧ State.reset.errWe = false

/-- 70_reset_and_hazards.md R143: a reset event puts every element at its reset value and drives no response. That a reset
is an entry of `pending`, and that the rest of `pending` stays, is the model's choice (log entry 2). -/
def Obligations.ResetEventRestoresResetState : Prop :=
  ∀ (s : State) (rest : List BusEvent), s.pending = .reset :: rest →
    step s = .next { State.reset with pending := rest, response := none }

/-- 60_exceptions.md R138: where the host issues nothing, every element keeps its value. That such a step idles and shows
no response is the model's choice (log entry 3). -/
def Obligations.IdleStepKeepsEveryElement : Prop :=
  ∀ s : State, s.pending = [] → step s = .next { s with response := none }

/-- The word placed by `withFetchWord` is the one the very next step decodes and runs (the model's choice of where that
place is: log entries 1 and 4). -/
def Obligations.PlacedWordRunsAtOnce : Prop :=
  ∀ (s : State) (nbits w : Nat) (i : Instr), decodeTableWord nbits w = some i → step (s.withFetchWord nbits w) = exec i s

/-- 20_memory.md R47: the words of well-formed instructions, issued in order, have the effect of the instructions applied in
that order, one step each. That they stand in `pending` is the model's choice (log entry 1). -/
def Obligations.IssuedInstructionsRunInOrder : Prop :=
  ∀ (is : List Instr) (s : State) (rest : List BusEvent), (∀ i ∈ is, i.wellFormed = true) →
    s.pending = issueAll is ++ rest → Host.Core.run core is.length s = execAll is { s with pending := rest }

/-! ### Decoding -/

/-- 30_encoding.md R55 to R58: decoding the canonical word of a well-formed instruction gives it back, with every operand
at every value. -/
def Obligations.DecodeOfEncodeIsTheInstruction : Prop :=
  ∀ i : Instr, i.wellFormed = true → decode (encode i) = .ok i

/-- 30_encoding.md R58: a decoded word selects the row of its instruction and of no other, and the instruction is
well-formed; a word that selects a row decodes to that row's instruction unless the range check of R57 turns it into
INVALID_PARAMETER. -/
def Obligations.DecodeAgreesWithOpcodeTable : Prop :=
  (∀ (t : BusWord) (i : Instr), decode t = .ok i →
      i.wellFormed = true ∧ i.row.selects t = true ∧ ∀ row ∈ opcodeTable, row.selects t = true → row = i.row) ∧
    ∀ (t : BusWord) (row : OpcodeRow), row ∈ opcodeTable → row.selects t = true →
      (∃ i, decode t = .ok i ∧ i.row = row) ∨
        (decode t = .error .invalidParameter ∧
          ((row.mnemonic = "BUILD.SETCAL" ∧ 0xFFFF < t.wdata.toNat) ∨ (row.mnemonic = "EXPLEN.WR" ∧ 8 < t.wdata.toNat)))

/-- 30_encoding.md R59 and 60_exceptions.md R127: which words raise which cause, in the order of priority. -/
def Obligations.ErrorCausesOfIllegalWords : Prop :=
  ∀ t : BusWord,
    (decode t = .error .misaligned ↔ t.addr.toNat % 4 ≠ 0) ∧
    (decode t = .error .unmapped ↔ t.addr.toNat % 4 = 0 ∧ 0x4C ≤ t.addr.toNat) ∧
    (decode t = .error .wrongDirection ↔
      (t.we = true ∧ t.addr.toNat ∈ [0x0C, 0x18, 0x1C, 0x20, 0x30, 0x34, 0x38, 0x40, 0x44]) ∨
      (t.we = false ∧ t.addr.toNat ∈ [0x04, 0x08, 0x10, 0x14, 0x28, 0x2C, 0x3C])) ∧
    (decode t = .error .illegalCommand ↔
      t.we = true ∧ ((t.addr = 0x10#8 ∧ t.wdata.toNat ∉ [0, 1, 2]) ∨ (t.addr = 0x3C#8 ∧ t.wdata.toNat ∉ [0, 1]))) ∧
    (decode t = .error .invalidParameter ↔
      t.we = true ∧ ((t.addr = 0x14#8 ∧ 0xFFFF < t.wdata.toNat) ∨ (t.addr = 0x24#8 ∧ 8 < t.wdata.toNat)))

/-- Words written out from the encodings of 30_encoding.md R55, R58 and from 95_test_vectors.md, with what they stand for. -/
def Obligations.DecodeOfWrittenOutWords : Prop :=
  decode 0x108FFFFFF31#41 = .ok (.crcByte 0x31#8) ∧ decode 0x114000000B4#41 = .ok (.buildSetcal 180#32) ∧
    decode 0x12C000000F4#41 = .ok (.rxPush 0xF4#8) ∧ decode 0x13C00000001#41 = .ok .parseAck ∧
    decode 0x148DEADBEEF#41 = .ok .errClear ∧ decode 0x04D00000000#41 = .error .misaligned ∧
    decode 0x12400000010#41 = .error .invalidParameter

/-! ### The checksum -/

/-- 40_crc.md R67, in arithmetic: XOR the byte in, then eight times halve, XORing 0xA001 where the value was odd. -/
def Obligations.CrcStepIsEightHalvings : Prop :=
  ∀ (acc : Half) (b : Byte),
    (crc16Step acc b).toNat =
      Nat.iterate (fun a => if a % 2 = 1 then (a / 2) ^^^ 0xA001 else a / 2) 8 (acc.toNat ^^^ b.toNat)

/-- 40_crc.md R70 (b): feeding more bytes continues the computation. -/
def Obligations.CrcOfConcatenationContinues : Prop :=
  ∀ s t : List Byte, crc16 (s ++ t) = t.foldl crc16Step (crc16 s)

/-- 40_crc.md R70 (c): the residue of a sequence followed by its trailer is 0. -/
def Obligations.CrcResidueIsZero : Prop :=
  ∀ s : List Byte, crc16 (s ++ [(crc16 s).extractLsb' 0 8, (crc16 s).extractLsb' 8 8]) = 0#16

/-- What the checksum is for ("used to validate frame integrity", 00_scope.md section 5; PV26 of 95_test_vectors.md shows
one case): changing any one byte of a sequence to any other value changes its checksum. -/
def Obligations.CrcDetectsAnyChangedByte : Prop :=
  ∀ (before after : List Byte) (b c : Byte), b ≠ c → crc16 (before ++ b :: after) ≠ crc16 (before ++ c :: after)

/-- 40_crc.md R75: CRC.INIT, one CRC.BYTE per byte, then CRC.RD respond with the checksum, and of the CFE's state only ACC
changes. -/
def Obligations.CrcEngineComputesChecksum : Prop :=
  ∀ (bs : List Byte) (s : State),
    execAll (.crcInit :: (bs.map Instr.crcByte ++ [.crcRd])) s =
      .next { s with acc := crc16 bs, response := some ⟨.ok, BitVec.ofNat 32 (crc16 bs).toNat⟩ }

/-! ### The CRC engine's operations -/

/-- 40_crc.md R72: CRC.INIT, its encoding, its whole effect, and the read of its register. -/
def Obligations.CrcInitLoadsInitialValue : Prop :=
  (∀ d, decode (transaction true 0x04#8 d) = .ok .crcInit) ∧
    (∀ s, exec .crcInit s = .next { s with acc := 0xFFFF#16, response := some ⟨.ok, 0#32⟩ }) ∧
    ∀ d, decode (transaction false 0x04#8 d) = .error .wrongDirection

/-- 40_crc.md R73: CRC.BYTE, its encoding with the ignored data bits, its whole effect, and the read of its register. -/
def Obligations.CrcByteFoldsOneByte : Prop :=
  (∀ d, decode (transaction true 0x08#8 d) = .ok (.crcByte (d.extractLsb' 0 8))) ∧
    (∀ b s, exec (.crcByte b) s = .next { s with acc := crc16Step s.acc b, response := some ⟨.ok, 0#32⟩ }) ∧
    ∀ d, decode (transaction false 0x08#8 d) = .error .wrongDirection

/-- 40_crc.md R74: CRC.RD, its encoding, its response and that nothing else changes, and the write of its register. -/
def Obligations.CrcReadRespondsAccumulator : Prop :=
  (∀ d, decode (transaction false 0x0C#8 d) = .ok .crcRd) ∧
    (∀ s, exec .crcRd s = .next { s with response := some ⟨.ok, BitVec.ofNat 32 s.acc.toNat⟩ }) ∧
    ∀ d, decode (transaction true 0x0C#8 d) = .error .wrongDirection

/-! ### The builder's operations -/

/-- 41_frame_builder.md R76 to R81: the three fixed builds, their encodings, frames and expected lengths, that nothing else
changes, and the errors of their register. -/
def Obligations.FixedBuildsPlaceTheirFrames : Prop :=
  decode (transaction true 0x10#8 0#32) = .ok .buildRead ∧ decode (transaction true 0x10#8 1#32) = .ok .buildDisable ∧
    decode (transaction true 0x10#8 2#32) = .ok .buildGetcal ∧
    (∀ s, exec .buildRead s =
      .next { s with txBuf := ⟨0xFE#8, 0x04#8, 0x00#8, 0x03#8, 0x00#8, 0x01#8, 0xD5#8, 0xC5#8⟩, txLen := 8#4,
                     expLen := 7#4, response := some ⟨.ok, 0#32⟩ }) ∧
    (∀ s, exec .buildDisable s =
      .next { s with txBuf := ⟨0xFE#8, 0x06#8, 0x00#8, 0x1F#8, 0x00#8, 0x00#8, 0xAC#8, 0x03#8⟩, txLen := 8#4,
                     expLen := 8#4, response := some ⟨.ok, 0#32⟩ }) ∧
    (∀ s, exec .buildGetcal s =
      .next { s with txBuf := ⟨0xFE#8, 0x03#8, 0x00#8, 0x1F#8, 0x00#8, 0x01#8, 0xA1#8, 0xC3#8⟩, txLen := 8#4,
                     expLen := 7#4, response := some ⟨.ok, 0#32⟩ }) ∧
    (∀ d : Word, d.toNat ∉ [0, 1, 2] → decode (transaction true 0x10#8 d) = .error .illegalCommand) ∧
    ∀ d, decode (transaction false 0x10#8 d) = .error .wrongDirection

/-- 41_frame_builder.md R82: BUILD.SETCAL over every data word: the frame of a legal period and its whole effect, the bus
error of an illegal one, and the read of its register. -/
def Obligations.SetcalBuildsPeriodFrameOrErrs : Prop :=
  (∀ d : Word, d.toNat ≤ 0xFFFF → decode (transaction true 0x14#8 d) = .ok (.buildSetcal d)) ∧
    (∀ (d : Word) (s : State) (c : Half), d.toNat ≤ 0xFFFF →
      c = crc16 [0xFE#8, 0x06#8, 0x00#8, 0x1F#8, d.extractLsb' 8 8, d.extractLsb' 0 8] →
      exec (.buildSetcal d) s =
        .next { s with txBuf := ⟨0xFE#8, 0x06#8, 0x00#8, 0x1F#8, d.extractLsb' 8 8, d.extractLsb' 0 8,
                                 c.extractLsb' 0 8, c.extractLsb' 8 8⟩,
                       txLen := 8#4, expLen := 8#4, response := some ⟨.ok, 0#32⟩ }) ∧
    (∀ d : Word, 0xFFFF < d.toNat → decode (transaction true 0x14#8 d) = .error .invalidParameter) ∧
    (∀ (d : Word) (s : State), 0xFFFF < d.toNat → exec (.buildSetcal d) s =
      .next { s with errCause := some .invalidParameter, errAddr := 0x14#8, errWe := true,
                     response := some ⟨.err, 0#32⟩ }) ∧
    ∀ d, decode (transaction false 0x14#8 d) = .error .wrongDirection

/-- 41_frame_builder.md R83 to R85 with the packing of 20_memory.md R46: the reads of the built frame, that nothing else
changes, and the writes of their registers. -/
def Obligations.TxReadsRespondLengthAndBytes : Prop :=
  (∀ d, decode (transaction false 0x18#8 d) = .ok .txlenRd ∧ decode (transaction false 0x1C#8 d) = .ok .txdata0Rd ∧
      decode (transaction false 0x20#8 d) = .ok .txdata1Rd) ∧
    (∀ s, exec .txlenRd s = .next { s with response := some ⟨.ok, BitVec.ofNat 32 s.txLen.toNat⟩ }) ∧
    (∀ s, ∃ w : Word, exec .txdata0Rd s = .next { s with response := some ⟨.ok, w⟩ } ∧
      ∀ j, j < 4 → w.extractLsb' (8 * j) 8 = s.txBuf.get j) ∧
    (∀ s, ∃ w : Word, exec .txdata1Rd s = .next { s with response := some ⟨.ok, w⟩ } ∧
      ∀ j, j < 4 → w.extractLsb' (8 * j) 8 = s.txBuf.get (4 + j)) ∧
    ∀ d, decode (transaction true 0x18#8 d) = .error .wrongDirection ∧
      decode (transaction true 0x1C#8 d) = .error .wrongDirection ∧
      decode (transaction true 0x20#8 d) = .error .wrongDirection

/-- 41_frame_builder.md R86: BUILD.SETCAL with period 0 and BUILD.DISABLE leave the same state, because the checksum of the
six bytes is the pre-baked trailer. -/
def Obligations.SetcalZeroIsDisable : Prop :=
  (∀ s : State, exec (.buildSetcal 0#32) s = exec .buildDisable s) ∧
    crc16 [0xFE#8, 0x06#8, 0x00#8, 0x1F#8, 0x00#8, 0x00#8] = 0x03AC#16

/-- 30_encoding.md R60: the format of every built frame, its checksum over every preceding byte included. -/
def Obligations.BuiltFramesHaveCommandFormat : Prop :=
  ∀ (s t : State) (i : Instr) (f : Byte) (reg payload : Half),
    ((i = .buildRead ∧ f = 0x04#8 ∧ reg = 0x0003#16 ∧ payload = 1#16) ∨
     (i = .buildDisable ∧ f = 0x06#8 ∧ reg = 0x001F#16 ∧ payload = 0#16) ∨
     (i = .buildGetcal ∧ f = 0x03#8 ∧ reg = 0x001F#16 ∧ payload = 1#16) ∨
     (i = .buildSetcal (payload.setWidth 32) ∧ f = 0x06#8 ∧ reg = 0x001F#16)) →
    exec i s = .next t →
      t.txLen = 8#4 ∧ t.txBuf.get 0 = 0xFE#8 ∧ t.txBuf.get 1 = f ∧
        (t.txBuf.get 2).toNat * 256 + (t.txBuf.get 3).toNat = reg.toNat ∧
        (t.txBuf.get 4).toNat * 256 + (t.txBuf.get 5).toNat = payload.toNat ∧
        (t.txBuf.get 6).toNat + (t.txBuf.get 7).toNat * 256 = (crc16 (t.txBuf.bytes.take 6)).toNat

/-! ### Reception -/

/-- 42_receive.md R91: RX.CLEAR, its encoding, its whole effect, and the read of its register. -/
def Obligations.RxClearEmptiesTheBuffer : Prop :=
  (∀ d, decode (transaction true 0x28#8 d) = .ok .rxClear) ∧
    (∀ s, exec .rxClear s =
      .next { s with rxBuf := ⟨0#8, 0#8, 0#8, 0#8, 0#8, 0#8, 0#8, 0#8⟩, rxCount := 0#4, rxOvf := false,
                     response := some ⟨.ok, 0#32⟩ }) ∧
    ∀ d, decode (transaction false 0x28#8 d) = .error .wrongDirection

/-- 42_receive.md R92: RX.PUSH, its encoding with the ignored data bits, its effect where the buffer has room (one byte at
index RX_COUNT, every other byte as before) and where it is full, that a PARSE after an overflow reports
MALFORMED_LENGTH, and the read of its register. -/
def Obligations.RxPushAppendsOrOverflows : Prop :=
  (∀ d, decode (transaction true 0x2C#8 d) = .ok (.rxPush (d.extractLsb' 0 8))) ∧
    (∀ (b : Byte) (s : State), s.rxCount.toNat < 8 → ∃ t, exec (.rxPush b) s = .next t ∧
      t = { s with rxBuf := t.rxBuf, rxCount := t.rxCount, response := some ⟨.ok, 0#32⟩ } ∧
      t.rxCount.toNat = s.rxCount.toNat + 1 ∧ t.rxBuf.get s.rxCount.toNat = b ∧
      ∀ j, j ≠ s.rxCount.toNat → t.rxBuf.get j = s.rxBuf.get j) ∧
    (∀ (b : Byte) (s : State), 8 ≤ s.rxCount.toNat →
      exec (.rxPush b) s = .next { s with rxOvf := true, response := some ⟨.ok, 0#32⟩ }) ∧
    (∀ s, s.rxOvf = true → (∃ t, exec .parseMeas s = .next t ∧ t.resCode = .malformedLength) ∧
      ∃ t, exec .parseAck s = .next t ∧ t.resCode = .malformedLength) ∧
    ∀ d, decode (transaction false 0x2C#8 d) = .error .wrongDirection

/-- 42_receive.md R93 to R95 with the packing of 20_memory.md R46: the reads of the receive buffer, that nothing else
changes, and the writes of their registers. -/
def Obligations.RxReadsRespondStatusAndBytes : Prop :=
  (∀ d, decode (transaction false 0x30#8 d) = .ok .rxstatRd ∧ decode (transaction false 0x34#8 d) = .ok .rxbuf0Rd ∧
      decode (transaction false 0x38#8 d) = .ok .rxbuf1Rd) ∧
    (∀ s, exec .rxstatRd s =
      .next { s with response := some ⟨.ok, BitVec.ofNat 32 (s.rxCount.toNat + if s.rxOvf then 16 else 0)⟩ }) ∧
    (∀ s, ∃ w : Word, exec .rxbuf0Rd s = .next { s with response := some ⟨.ok, w⟩ } ∧
      ∀ j, j < 4 → w.extractLsb' (8 * j) 8 = s.rxBuf.get j) ∧
    (∀ s, ∃ w : Word, exec .rxbuf1Rd s = .next { s with response := some ⟨.ok, w⟩ } ∧
      ∀ j, j < 4 → w.extractLsb' (8 * j) 8 = s.rxBuf.get (4 + j)) ∧
    ∀ d, decode (transaction true 0x30#8 d) = .error .wrongDirection ∧
      decode (transaction true 0x34#8 d) = .error .wrongDirection ∧
      decode (transaction true 0x38#8 d) = .error .wrongDirection

/-- 30_encoding.md R64 (RX.FRAME) with 42_receive.md R92: clearing and pushing any bytes leaves the first 8 of them in
RX_BUF and zeros beyond, their number up to 8, the overflow flag set exactly when there were more, and changes nothing
else. -/
def Obligations.RxFrameHoldsThePushedBytes : Prop :=
  ∀ (bs : List Byte) (s : State), ∃ t, execAll (.rxClear :: bs.map Instr.rxPush) s = .next t ∧
    t = { s with rxBuf := t.rxBuf, rxCount := t.rxCount, rxOvf := t.rxOvf, response := some ⟨.ok, 0#32⟩ } ∧
    (∀ i, i < 8 → t.rxBuf.get i = bs.getD i 0#8) ∧ t.rxCount.toNat = min bs.length 8 ∧
    (t.rxOvf = true ↔ 8 < bs.length)

/-! ### The parser -/

/-- 43_parser.md R100, R101: CTRL.RD and CTRL.WR, their encodings with the ignored data bits, and their whole effects. -/
def Obligations.CtrlHoldsOneBit : Prop :=
  (∀ d, decode (transaction false 0x00#8 d) = .ok .ctrlRd) ∧
    (∀ d : Word, decode (transaction true 0x00#8 d) = .ok (.ctrlWr (d.getLsbD 0))) ∧
    (∀ s, exec .ctrlRd s = .next { s with response := some ⟨.ok, if s.chkEn then 1#32 else 0#32⟩ }) ∧
    ∀ en s, exec (.ctrlWr en) s = .next { s with chkEn := en, response := some ⟨.ok, 0#32⟩ }

/-- 43_parser.md R102, R103: EXPLEN.RD, and EXPLEN.WR over every data word. -/
def Obligations.ExpLenHoldsZeroToEightOrErrs : Prop :=
  (∀ d, decode (transaction false 0x24#8 d) = .ok .explenRd) ∧
    (∀ s, exec .explenRd s = .next { s with response := some ⟨.ok, BitVec.ofNat 32 s.expLen.toNat⟩ }) ∧
    (∀ d : Word, d.toNat ≤ 8 → decode (transaction true 0x24#8 d) = .ok (.explenWr d)) ∧
    (∀ (d : Word) (s : State), d.toNat ≤ 8 →
      exec (.explenWr d) s = .next { s with expLen := BitVec.ofNat 4 d.toNat, response := some ⟨.ok, 0#32⟩ }) ∧
    (∀ d : Word, 8 < d.toNat → decode (transaction true 0x24#8 d) = .error .invalidParameter) ∧
    ∀ (d : Word) (s : State), 8 < d.toNat → exec (.explenWr d) s =
      .next { s with errCause := some .invalidParameter, errAddr := 0x24#8, errWe := true,
                     response := some ⟨.err, 0#32⟩ }

/-- 43_parser.md R105 to R110 and 60_exceptions.md R128: PARSE.MEAS and PARSE.ACK, their encodings and errors; the flags are
the three checks, CODE is the first check that applies, VALUE the big-endian bytes 3 and 4 of an OK measurement and else 0,
and nothing else changes. The premise is R18 (d), which `StepKeepsWellFormedness` keeps: RX_BUF has no byte beyond index 7
(log entry 5). -/
def Obligations.ParseLatchesVerdictFlagsAndValue : Prop :=
  decode (transaction true 0x3C#8 0#32) = .ok .parseMeas ∧ decode (transaction true 0x3C#8 1#32) = .ok .parseAck ∧
    (∀ d : Word, d.toNat ∉ [0, 1] → decode (transaction true 0x3C#8 d) = .error .illegalCommand) ∧
    (∀ d, decode (transaction false 0x3C#8 d) = .error .wrongDirection) ∧
    ∀ (s : State) (i : Instr) (m : ParseMode),
      s.rxCount.toNat ≤ 8 → (i = .parseMeas ∧ m = .measurement) ∨ (i = .parseAck ∧ m = .acknowledgment) →
      ∃ t, exec i s = .next t ∧
        t = { s with resCode := t.resCode, resLenOk := t.resLenOk, resCrcOk := t.resCrcOk, resEchoEq := t.resEchoEq,
                     resMode := m, value := t.value, response := some ⟨.ok, 0#32⟩ } ∧
        (t.resLenOk = true ↔ s.rxOvf = false ∧ s.rxCount = s.expLen) ∧
        (t.resCrcOk = true ↔ s.rxOvf = false ∧ 2 ≤ s.rxCount.toNat ∧
          (crc16 (s.rxBuf.bytes.take (s.rxCount.toNat - 2))).toNat =
            (s.rxBuf.get (s.rxCount.toNat - 2)).toNat + (s.rxBuf.get (s.rxCount.toNat - 1)).toNat * 256) ∧
        (t.resEchoEq = true ↔ s.rxOvf = false ∧ s.txLen ≠ 0#4 ∧ s.rxCount = s.txLen ∧
          ∀ k, k < s.rxCount.toNat → s.rxBuf.get k = s.txBuf.get k) ∧
        (t.resCode =
          if s.rxCount = 0#4 ∧ s.rxOvf = false then .noResponse
          else if t.resLenOk = false then .malformedLength
          else if m = .measurement ∧ s.rxCount.toNat < 5 then .malformedLength
          else if s.chkEn = true ∧ t.resCrcOk = false then .malformedCrc
          else .ok) ∧
        t.value.toNat =
          if t.resCode = .ok ∧ m = .measurement then (s.rxBuf.get 3).toNat * 256 + (s.rxBuf.get 4).toNat else 0

/-- 43_parser.md R109: 1 to 4 bytes are MALFORMED_LENGTH in measurement mode whatever EXP_LEN and CTRL hold, and VALUE is
then 0; 0 bytes are NO_RESPONSE. -/
def Obligations.ShortMeasurementNeverDecodes : Prop :=
  ∀ s : State, s.rxOvf = false → s.rxCount.toNat < 5 → ∃ t, exec .parseMeas s = .next t ∧ t.value = 0#16 ∧
    (s.rxCount = 0#4 → t.resCode.code = 2#3) ∧ (s.rxCount ≠ 0#4 → t.resCode.code = 3#3)

/-- 43_parser.md R110: an exact echo of a built frame, with EXP_LEN 8, is CODE 1 with every flag set, whether or not
checksums are checked. The premise that the built frame carries its checksum is the invariant
`BuiltFrameChecksumIsKept`. -/
def Obligations.ExactEchoOfBuiltFrameIsOk : Prop :=
  ∀ s : State, s.BuiltFrameChecked → s.txLen = 8#4 → s.rxBuf = s.txBuf → s.rxCount = 8#4 → s.rxOvf = false →
    s.expLen = 8#4 → ∃ t, exec .parseAck s = .next t ∧ t.resCode.code = 1#3 ∧ t.resLenOk = true ∧ t.resCrcOk = true ∧
      t.resEchoEq = true ∧ t.resMode = .acknowledgment ∧ t.value = 0#16

/-- 43_parser.md R111, R112 with 10_state.md R36, R37: the reads of RESULT and VALUE bit by bit, that nothing else changes,
and the writes of their registers. -/
def Obligations.ResultAndValueReadBack : Prop :=
  (∀ d, decode (transaction false 0x40#8 d) = .ok .resultRd ∧ decode (transaction false 0x44#8 d) = .ok .valueRd) ∧
    (∀ s, ∃ w : Word, exec .resultRd s = .next { s with response := some ⟨.ok, w⟩ } ∧
      w.extractLsb' 0 3 = (match s.resCode with
        | .none => 0#3 | .ok => 1#3 | .noResponse => 2#3 | .malformedLength => 3#3 | .malformedCrc => 4#3) ∧
      w.getLsbD 3 = s.resLenOk ∧ w.getLsbD 4 = s.resCrcOk ∧ w.getLsbD 5 = s.resEchoEq ∧
      (w.getLsbD 6 = true ↔ s.resMode = .acknowledgment) ∧ w.extractLsb' 7 25 = 0#25) ∧
    (∀ s, exec .valueRd s = .next { s with response := some ⟨.ok, BitVec.ofNat 32 s.value.toNat⟩ }) ∧
    ∀ d, decode (transaction true 0x40#8 d) = .error .wrongDirection ∧
      decode (transaction true 0x44#8 d) = .error .wrongDirection

/-! ### The error register -/

/-- 44_error_register.md R120, R121 with 10_state.md R38: ERR.RD bit by bit, and ERR.CLEAR with the ignored data. -/
def Obligations.ErrInfoReadsAndClears : Prop :=
  (∀ d, decode (transaction false 0x48#8 d) = .ok .errRd ∧ decode (transaction true 0x48#8 d) = .ok .errClear) ∧
    (∀ s, ∃ w : Word, exec .errRd s = .next { s with response := some ⟨.ok, w⟩ } ∧
      w.extractLsb' 0 3 = (match s.errCause with
        | none => 0#3 | some .unmapped => 1#3 | some .misaligned => 2#3 | some .wrongDirection => 3#3
        | some .illegalCommand => 4#3 | some .invalidParameter => 5#3) ∧
      w.extractLsb' 3 5 = 0#5 ∧ w.extractLsb' 8 8 = s.errAddr ∧ w.getLsbD 16 = s.errWe ∧ w.extractLsb' 17 15 = 0#15) ∧
    ∀ s, exec .errClear s =
      .next { s with errCause := none, errAddr := 0#8, errWe := false, response := some ⟨.ok, 0#32⟩ }

/-! ### Whole-machine rules -/

/-- 20_memory.md R49: (a) a read changes no state and repeats its value; (b) every operation but CRC.BYTE and RX.PUSH is
idempotent, and those two are not; (c) a transaction that answers ERR changes only ERR_INFO. That it leaves `pending` is
the model's choice (log entry 1). -/
def Obligations.ReadsArePureAndWritesIdempotent : Prop :=
  (∀ (i : Instr) (s : State), isReadInstr i = true → ∃ v, exec i s = .next { s with response := some ⟨.ok, v⟩ } ∧
      exec i { s with response := some ⟨.ok, v⟩ } = .next { s with response := some ⟨.ok, v⟩ }) ∧
    (∀ (i : Instr) (s t : State), (∀ b, i ≠ .crcByte b) → (∀ b, i ≠ .rxPush b) → exec i s = .next t →
      exec i t = .next t) ∧
    (∃ b s t, exec (.crcByte b) s = .next t ∧ exec (.crcByte b) t ≠ .next t) ∧
    (∃ b s t, exec (.rxPush b) s = .next t ∧ exec (.rxPush b) t ≠ .next t) ∧
    ∀ (s t : State) (w : BusWord) (rest : List BusEvent) (v : Word), s.pending = .transaction w :: rest →
      step s = .next t → t.response = some ⟨.err, v⟩ →
      t = { s with pending := rest, errCause := t.errCause, errAddr := t.errAddr, errWe := t.errWe,
                   response := t.response }

/-- 10_state.md R39, R40 and the operation rules: which instruction can have written what, from what has changed. The last
clause, that no instruction changes `pending`, is the model's choice (log entry 1, after 20_memory.md R47). -/
def Obligations.EachElementHasItsWriters : Prop :=
  ∀ (i : Instr) (s t : State), i.wellFormed = true → exec i s = .next t →
    (t.chkEn ≠ s.chkEn → ∃ en, i = .ctrlWr en) ∧
    (t.acc ≠ s.acc → i = .crcInit ∨ ∃ b, i = .crcByte b) ∧
    (t.txBuf ≠ s.txBuf ∨ t.txLen ≠ s.txLen → i = .buildRead ∨ i = .buildDisable ∨ i = .buildGetcal ∨ ∃ d, i = .buildSetcal d) ∧
    (t.expLen ≠ s.expLen →
      i = .buildRead ∨ i = .buildDisable ∨ i = .buildGetcal ∨ (∃ d, i = .buildSetcal d) ∨ ∃ d, i = .explenWr d) ∧
    (t.rxBuf ≠ s.rxBuf ∨ t.rxCount ≠ s.rxCount ∨ t.rxOvf ≠ s.rxOvf → i = .rxClear ∨ ∃ b, i = .rxPush b) ∧
    (¬ sameResult s t → i = .parseMeas ∨ i = .parseAck) ∧ (¬ sameErrInfo s t → i = .errClear) ∧
    t.pending = s.pending

/-- 92_eei_decisions.md D15 (40_crc.md section 2): no operation but the engine's own reads or writes ACC: run from two
states that differ in ACC only, it gives states that differ in ACC only, each with its own ACC kept. -/
def Obligations.OnlyTheEngineTouchesAcc : Prop :=
  ∀ (i : Instr) (s t : State) (a : Half), i ≠ .crcInit → (∀ b, i ≠ .crcByte b) → i ≠ .crcRd → exec i s = .next t →
    t.acc = s.acc ∧ exec i { s with acc := a } = .next { t with acc := a }

/-- 70_reset_and_hazards.md R149: RESULT and VALUE are kept by every transaction that is not a PARSE, an erroneous one
included. The second clause, that an idle step keeps them too, rests on the model's choice of an idle step (log entry 3). -/
def Obligations.ResultIsStaleUntilParseOrReset : Prop :=
  (∀ (s t : State) (w : BusWord) (rest : List BusEvent), s.pending = .transaction w :: rest →
      decode w ≠ .ok .parseMeas → decode w ≠ .ok .parseAck → step s = .next t → sameResult s t) ∧
    ∀ s t : State, s.pending = [] → step s = .next t → sameResult s t

/-- 70_reset_and_hazards.md R144: no operation returns TX_LEN to 0, TX_BUF to all zeros or RES_CODE to NONE, and every
transaction, an erroneous one included, keeps that. -/
def Obligations.OnlyResetUnbuilds : Prop :=
  ∀ (s t : State) (w : BusWord) (rest : List BusEvent), s.pending = .transaction w :: rest → step s = .next t →
    (s.txLen ≠ 0#4 → t.txLen ≠ 0#4) ∧ (s.txBuf ≠ Buf8.zero → t.txBuf ≠ Buf8.zero) ∧
      (s.resCode ≠ .none → t.resCode ≠ .none)

/-! ### Invariants -/

/-- 10_state.md R18: every step keeps the invariants (a) to (i). -/
def Obligations.StepKeepsWellFormedness : Prop :=
  ∀ s t : State, s.Inv → step s = .next t → t.Inv

/-- 10_state.md R18, R43: the reset state has the invariants (a) to (i). -/
def Obligations.ResetIsWellFormed : Prop := State.reset.Inv

/-- 10_state.md R18: every state reached from reset, whatever the host issues, satisfies the invariants. -/
def Obligations.ReachableStatesAreWellFormed : Prop :=
  ∀ (events : List BusEvent) (n : Nat) (t : State),
    Host.Core.run core n (State.reset.setPending events) = .next t → t.Inv

/-- 41_frame_builder.md R87: every step keeps that the frame in TX_BUF ends with its checksum. -/
def Obligations.BuiltFrameChecksumIsKept : Prop :=
  ∀ s t : State, s.BuiltFrameChecked → step s = .next t → t.BuiltFrameChecked

/-- 43_parser.md R104, R108 and 10_state.md R36, R37: every step keeps that the fields of RESULT and VALUE agree. -/
def Obligations.ResultConsistencyIsKept : Prop :=
  ∀ s t : State, s.ResultConsistent → step s = .next t → t.ResultConsistent

/-- 10_state.md R43: the reset state has both of the last two invariants. -/
def Obligations.ResetIsCheckedAndConsistent : Prop := State.reset.BuiltFrameChecked ∧ State.reset.ResultConsistent
end

