-- ==== Sys2Proof/Laws/Checksum.lean ====
section
/-! SUPPORT. The checksum functions' small lemmas (40_crc.md R67, R68). -/

namespace Sys2Proof.Machine

@[simp] theorem crcShifts_zero (a : Half) : crcShifts 0 a = a := rfl

theorem crcShifts_succ (n : Nat) (a : Half) : crcShifts (n + 1) a = crcShifts n (crcShift a) := rfl

@[simp] theorem crc16From_nil (acc : Half) : crc16From acc [] = acc := rfl

@[simp] theorem crc16From_cons (acc : Half) (b : Byte) (s : List Byte) :
    crc16From acc (b :: s) = crc16From (crc16Step acc b) s := rfl

theorem crc16From_append (acc : Half) (s t : List Byte) :
    crc16From acc (s ++ t) = crc16From (crc16From acc s) t := List.foldl_append

end Sys2Proof.Machine
end

