-- ==== Sys2Proof/Laws/Decode.lean ====
section
/-! SUPPORT. The transaction word and its fields, the register map, and the opcode table (30_encoding.md R55, R58,
10_state.md R19). -/

namespace Sys2Proof

@[simp] theorem transaction_we (w : Bool) (a : Byte) (d : Word) : (transaction w a d).we = w := by
  simp only [transaction, BusWord.we, BitVec.getLsbD_append]
  simp

@[simp] theorem transaction_addr (w : Bool) (a : Byte) (d : Word) : (transaction w a d).addr = a := by
  apply BitVec.eq_of_getLsbD_eq
  intro i hi
  simp only [transaction, BusWord.addr, BitVec.getLsbD_extractLsb', BitVec.getLsbD_append, hi]
  have h : ¬ 32 + i < 32 := by omega
  simp [h, hi]

@[simp] theorem transaction_wdata (w : Bool) (a : Byte) (d : Word) : (transaction w a d).wdata = d := by
  apply BitVec.eq_of_getLsbD_eq
  intro i hi
  simp only [transaction, BusWord.wdata, BitVec.getLsbD_extractLsb', BitVec.getLsbD_append, hi]
  simp [hi]

/-- A transaction word is its three fields. -/
theorem transaction_fields (t : BusWord) : transaction t.we t.addr t.wdata = t := by
  apply BitVec.eq_of_getLsbD_eq
  intro i hi
  simp only [transaction, BusWord.we, BusWord.addr, BusWord.wdata, BitVec.getLsbD_append, BitVec.getLsbD_extractLsb',
    BitVec.getLsbD_ofBool]
  by_cases h32 : i < 32
  · simp [h32]
  · by_cases h40 : i - 32 < 8
    · have h : 32 + (i - 32) = i := by omega
      simp [h32, h40, h]
    · have h : i = 40 := by omega
      subst h
      simp

/-- Decoding a word made of three fields decodes the fields. -/
@[simp] theorem decode_transaction (w : Bool) (a : Byte) (d : Word) :
    decode (transaction w a d) = decodeFields w a d := by
  simp [decode]

@[simp] theorem memRead_eq (a : Byte) : memRead a = transaction false a 0#32 := rfl

@[simp] theorem memWrite_eq (a : Byte) (d : Word) : memWrite a d = transaction true a d := rfl

/-- Every register is found at its own offset, so no two share one (10_state.md R19). -/
theorem registerAt_offset (r : RegName) : registerAt r.offset = some r := by cases r <;> decide

/-- The list of registers is whole. -/
theorem RegName.mem_all (r : RegName) : r ∈ RegName.all := by cases r <;> decide

/-- For an aligned offset, no register is mapped exactly above 0x48 (10_state.md R19, 30_encoding.md R57). -/
theorem registerAt_none_iff (a : Byte) (h : a.extractLsb' 0 2 = 0#2) : registerAt a = none ↔ 0x48#8 < a := by
  revert a
  decide

/-- A read is WRONG_DIRECTION exactly at a write-only register (30_encoding.md R57). -/
theorem decodeRead_error_iff (r : RegName) : decodeRead r = .error .wrongDirection ↔ r.access = .wo := by
  cases r <;> simp [decodeRead, RegName.access]

/-- A write to a read-only register is WRONG_DIRECTION (30_encoding.md R57). -/
theorem decodeWrite_ro (r : RegName) (d : Word) (h : r.access = .ro) : decodeWrite r d = .error .wrongDirection := by
  cases r <;> simp_all [decodeWrite, RegName.access]

/-- The table has 25 rows with 25 mnemonics (30_encoding.md R58). -/
theorem opcodeTable_mnemonics : (opcodeTable.map OpcodeRow.mnemonic).Nodup ∧ opcodeTable.length = 25 := by decide

/-- No word selects two rows: two different rows disagree on a bit both masks cover (30_encoding.md R58). -/
theorem opcodeTable_disjoint :
    opcodeTable.Pairwise fun p q => p.pattern &&& q.mask &&& p.mask ≠ q.pattern &&& p.mask &&& q.mask := by decide

end Sys2Proof
end

