-- ==== Sys2Proof/Laws/State.lean ====
section
/-! SUPPORT. One lemma per field per update of the state (Machine/Ops.lean), so that no proof unfolds a record update. -/

namespace Sys2Proof.Machine

variable (s : State)

section
variable (v : Bool)
@[simp] theorem State.setChkEn_chkEn : (s.setChkEn v).chkEn = v := rfl
@[simp] theorem State.setChkEn_acc : (s.setChkEn v).acc = s.acc := rfl
@[simp] theorem State.setChkEn_txBuf : (s.setChkEn v).txBuf = s.txBuf := rfl
@[simp] theorem State.setChkEn_txLen : (s.setChkEn v).txLen = s.txLen := rfl
@[simp] theorem State.setChkEn_expLen : (s.setChkEn v).expLen = s.expLen := rfl
@[simp] theorem State.setChkEn_rxBuf : (s.setChkEn v).rxBuf = s.rxBuf := rfl
@[simp] theorem State.setChkEn_rxCount : (s.setChkEn v).rxCount = s.rxCount := rfl
@[simp] theorem State.setChkEn_rxOvf : (s.setChkEn v).rxOvf = s.rxOvf := rfl
@[simp] theorem State.setChkEn_resCode : (s.setChkEn v).resCode = s.resCode := rfl
@[simp] theorem State.setChkEn_resLenOk : (s.setChkEn v).resLenOk = s.resLenOk := rfl
@[simp] theorem State.setChkEn_resCrcOk : (s.setChkEn v).resCrcOk = s.resCrcOk := rfl
@[simp] theorem State.setChkEn_resEchoEq : (s.setChkEn v).resEchoEq = s.resEchoEq := rfl
@[simp] theorem State.setChkEn_resMode : (s.setChkEn v).resMode = s.resMode := rfl
@[simp] theorem State.setChkEn_value : (s.setChkEn v).value = s.value := rfl
@[simp] theorem State.setChkEn_errCause : (s.setChkEn v).errCause = s.errCause := rfl
@[simp] theorem State.setChkEn_errAddr : (s.setChkEn v).errAddr = s.errAddr := rfl
@[simp] theorem State.setChkEn_errWe : (s.setChkEn v).errWe = s.errWe := rfl
@[simp] theorem State.setChkEn_pending : (s.setChkEn v).pending = s.pending := rfl
@[simp] theorem State.setChkEn_response : (s.setChkEn v).response = s.response := rfl
end

section
variable (v : Half)
@[simp] theorem State.setAcc_chkEn : (s.setAcc v).chkEn = s.chkEn := rfl
@[simp] theorem State.setAcc_acc : (s.setAcc v).acc = v := rfl
@[simp] theorem State.setAcc_txBuf : (s.setAcc v).txBuf = s.txBuf := rfl
@[simp] theorem State.setAcc_txLen : (s.setAcc v).txLen = s.txLen := rfl
@[simp] theorem State.setAcc_expLen : (s.setAcc v).expLen = s.expLen := rfl
@[simp] theorem State.setAcc_rxBuf : (s.setAcc v).rxBuf = s.rxBuf := rfl
@[simp] theorem State.setAcc_rxCount : (s.setAcc v).rxCount = s.rxCount := rfl
@[simp] theorem State.setAcc_rxOvf : (s.setAcc v).rxOvf = s.rxOvf := rfl
@[simp] theorem State.setAcc_resCode : (s.setAcc v).resCode = s.resCode := rfl
@[simp] theorem State.setAcc_resLenOk : (s.setAcc v).resLenOk = s.resLenOk := rfl
@[simp] theorem State.setAcc_resCrcOk : (s.setAcc v).resCrcOk = s.resCrcOk := rfl
@[simp] theorem State.setAcc_resEchoEq : (s.setAcc v).resEchoEq = s.resEchoEq := rfl
@[simp] theorem State.setAcc_resMode : (s.setAcc v).resMode = s.resMode := rfl
@[simp] theorem State.setAcc_value : (s.setAcc v).value = s.value := rfl
@[simp] theorem State.setAcc_errCause : (s.setAcc v).errCause = s.errCause := rfl
@[simp] theorem State.setAcc_errAddr : (s.setAcc v).errAddr = s.errAddr := rfl
@[simp] theorem State.setAcc_errWe : (s.setAcc v).errWe = s.errWe := rfl
@[simp] theorem State.setAcc_pending : (s.setAcc v).pending = s.pending := rfl
@[simp] theorem State.setAcc_response : (s.setAcc v).response = s.response := rfl
end

section
variable (f : Buf8) (n : BitVec 4)
@[simp] theorem State.setTx_chkEn : (s.setTx f n).chkEn = s.chkEn := rfl
@[simp] theorem State.setTx_acc : (s.setTx f n).acc = s.acc := rfl
@[simp] theorem State.setTx_txBuf : (s.setTx f n).txBuf = f := rfl
@[simp] theorem State.setTx_txLen : (s.setTx f n).txLen = n := rfl
@[simp] theorem State.setTx_expLen : (s.setTx f n).expLen = s.expLen := rfl
@[simp] theorem State.setTx_rxBuf : (s.setTx f n).rxBuf = s.rxBuf := rfl
@[simp] theorem State.setTx_rxCount : (s.setTx f n).rxCount = s.rxCount := rfl
@[simp] theorem State.setTx_rxOvf : (s.setTx f n).rxOvf = s.rxOvf := rfl
@[simp] theorem State.setTx_resCode : (s.setTx f n).resCode = s.resCode := rfl
@[simp] theorem State.setTx_resLenOk : (s.setTx f n).resLenOk = s.resLenOk := rfl
@[simp] theorem State.setTx_resCrcOk : (s.setTx f n).resCrcOk = s.resCrcOk := rfl
@[simp] theorem State.setTx_resEchoEq : (s.setTx f n).resEchoEq = s.resEchoEq := rfl
@[simp] theorem State.setTx_resMode : (s.setTx f n).resMode = s.resMode := rfl
@[simp] theorem State.setTx_value : (s.setTx f n).value = s.value := rfl
@[simp] theorem State.setTx_errCause : (s.setTx f n).errCause = s.errCause := rfl
@[simp] theorem State.setTx_errAddr : (s.setTx f n).errAddr = s.errAddr := rfl
@[simp] theorem State.setTx_errWe : (s.setTx f n).errWe = s.errWe := rfl
@[simp] theorem State.setTx_pending : (s.setTx f n).pending = s.pending := rfl
@[simp] theorem State.setTx_response : (s.setTx f n).response = s.response := rfl
end

section
variable (v : BitVec 4)
@[simp] theorem State.setExpLen_chkEn : (s.setExpLen v).chkEn = s.chkEn := rfl
@[simp] theorem State.setExpLen_acc : (s.setExpLen v).acc = s.acc := rfl
@[simp] theorem State.setExpLen_txBuf : (s.setExpLen v).txBuf = s.txBuf := rfl
@[simp] theorem State.setExpLen_txLen : (s.setExpLen v).txLen = s.txLen := rfl
@[simp] theorem State.setExpLen_expLen : (s.setExpLen v).expLen = v := rfl
@[simp] theorem State.setExpLen_rxBuf : (s.setExpLen v).rxBuf = s.rxBuf := rfl
@[simp] theorem State.setExpLen_rxCount : (s.setExpLen v).rxCount = s.rxCount := rfl
@[simp] theorem State.setExpLen_rxOvf : (s.setExpLen v).rxOvf = s.rxOvf := rfl
@[simp] theorem State.setExpLen_resCode : (s.setExpLen v).resCode = s.resCode := rfl
@[simp] theorem State.setExpLen_resLenOk : (s.setExpLen v).resLenOk = s.resLenOk := rfl
@[simp] theorem State.setExpLen_resCrcOk : (s.setExpLen v).resCrcOk = s.resCrcOk := rfl
@[simp] theorem State.setExpLen_resEchoEq : (s.setExpLen v).resEchoEq = s.resEchoEq := rfl
@[simp] theorem State.setExpLen_resMode : (s.setExpLen v).resMode = s.resMode := rfl
@[simp] theorem State.setExpLen_value : (s.setExpLen v).value = s.value := rfl
@[simp] theorem State.setExpLen_errCause : (s.setExpLen v).errCause = s.errCause := rfl
@[simp] theorem State.setExpLen_errAddr : (s.setExpLen v).errAddr = s.errAddr := rfl
@[simp] theorem State.setExpLen_errWe : (s.setExpLen v).errWe = s.errWe := rfl
@[simp] theorem State.setExpLen_pending : (s.setExpLen v).pending = s.pending := rfl
@[simp] theorem State.setExpLen_response : (s.setExpLen v).response = s.response := rfl
end

section
variable (f : Buf8) (n : BitVec 4)
@[simp] theorem State.setRx_chkEn : (s.setRx f n).chkEn = s.chkEn := rfl
@[simp] theorem State.setRx_acc : (s.setRx f n).acc = s.acc := rfl
@[simp] theorem State.setRx_txBuf : (s.setRx f n).txBuf = s.txBuf := rfl
@[simp] theorem State.setRx_txLen : (s.setRx f n).txLen = s.txLen := rfl
@[simp] theorem State.setRx_expLen : (s.setRx f n).expLen = s.expLen := rfl
@[simp] theorem State.setRx_rxBuf : (s.setRx f n).rxBuf = f := rfl
@[simp] theorem State.setRx_rxCount : (s.setRx f n).rxCount = n := rfl
@[simp] theorem State.setRx_rxOvf : (s.setRx f n).rxOvf = s.rxOvf := rfl
@[simp] theorem State.setRx_resCode : (s.setRx f n).resCode = s.resCode := rfl
@[simp] theorem State.setRx_resLenOk : (s.setRx f n).resLenOk = s.resLenOk := rfl
@[simp] theorem State.setRx_resCrcOk : (s.setRx f n).resCrcOk = s.resCrcOk := rfl
@[simp] theorem State.setRx_resEchoEq : (s.setRx f n).resEchoEq = s.resEchoEq := rfl
@[simp] theorem State.setRx_resMode : (s.setRx f n).resMode = s.resMode := rfl
@[simp] theorem State.setRx_value : (s.setRx f n).value = s.value := rfl
@[simp] theorem State.setRx_errCause : (s.setRx f n).errCause = s.errCause := rfl
@[simp] theorem State.setRx_errAddr : (s.setRx f n).errAddr = s.errAddr := rfl
@[simp] theorem State.setRx_errWe : (s.setRx f n).errWe = s.errWe := rfl
@[simp] theorem State.setRx_pending : (s.setRx f n).pending = s.pending := rfl
@[simp] theorem State.setRx_response : (s.setRx f n).response = s.response := rfl
end

section
variable (v : Bool)
@[simp] theorem State.setRxOvf_chkEn : (s.setRxOvf v).chkEn = s.chkEn := rfl
@[simp] theorem State.setRxOvf_acc : (s.setRxOvf v).acc = s.acc := rfl
@[simp] theorem State.setRxOvf_txBuf : (s.setRxOvf v).txBuf = s.txBuf := rfl
@[simp] theorem State.setRxOvf_txLen : (s.setRxOvf v).txLen = s.txLen := rfl
@[simp] theorem State.setRxOvf_expLen : (s.setRxOvf v).expLen = s.expLen := rfl
@[simp] theorem State.setRxOvf_rxBuf : (s.setRxOvf v).rxBuf = s.rxBuf := rfl
@[simp] theorem State.setRxOvf_rxCount : (s.setRxOvf v).rxCount = s.rxCount := rfl
@[simp] theorem State.setRxOvf_rxOvf : (s.setRxOvf v).rxOvf = v := rfl
@[simp] theorem State.setRxOvf_resCode : (s.setRxOvf v).resCode = s.resCode := rfl
@[simp] theorem State.setRxOvf_resLenOk : (s.setRxOvf v).resLenOk = s.resLenOk := rfl
@[simp] theorem State.setRxOvf_resCrcOk : (s.setRxOvf v).resCrcOk = s.resCrcOk := rfl
@[simp] theorem State.setRxOvf_resEchoEq : (s.setRxOvf v).resEchoEq = s.resEchoEq := rfl
@[simp] theorem State.setRxOvf_resMode : (s.setRxOvf v).resMode = s.resMode := rfl
@[simp] theorem State.setRxOvf_value : (s.setRxOvf v).value = s.value := rfl
@[simp] theorem State.setRxOvf_errCause : (s.setRxOvf v).errCause = s.errCause := rfl
@[simp] theorem State.setRxOvf_errAddr : (s.setRxOvf v).errAddr = s.errAddr := rfl
@[simp] theorem State.setRxOvf_errWe : (s.setRxOvf v).errWe = s.errWe := rfl
@[simp] theorem State.setRxOvf_pending : (s.setRxOvf v).pending = s.pending := rfl
@[simp] theorem State.setRxOvf_response : (s.setRxOvf v).response = s.response := rfl
end

section
variable (code : ResultCode) (lenOk crcOk echoEq : Bool) (mode : ParseMode) (v : Half)
@[simp] theorem State.setResult_chkEn : (s.setResult code lenOk crcOk echoEq mode v).chkEn = s.chkEn := rfl
@[simp] theorem State.setResult_acc : (s.setResult code lenOk crcOk echoEq mode v).acc = s.acc := rfl
@[simp] theorem State.setResult_txBuf : (s.setResult code lenOk crcOk echoEq mode v).txBuf = s.txBuf := rfl
@[simp] theorem State.setResult_txLen : (s.setResult code lenOk crcOk echoEq mode v).txLen = s.txLen := rfl
@[simp] theorem State.setResult_expLen : (s.setResult code lenOk crcOk echoEq mode v).expLen = s.expLen := rfl
@[simp] theorem State.setResult_rxBuf : (s.setResult code lenOk crcOk echoEq mode v).rxBuf = s.rxBuf := rfl
@[simp] theorem State.setResult_rxCount : (s.setResult code lenOk crcOk echoEq mode v).rxCount = s.rxCount := rfl
@[simp] theorem State.setResult_rxOvf : (s.setResult code lenOk crcOk echoEq mode v).rxOvf = s.rxOvf := rfl
@[simp] theorem State.setResult_resCode : (s.setResult code lenOk crcOk echoEq mode v).resCode = code := rfl
@[simp] theorem State.setResult_resLenOk : (s.setResult code lenOk crcOk echoEq mode v).resLenOk = lenOk := rfl
@[simp] theorem State.setResult_resCrcOk : (s.setResult code lenOk crcOk echoEq mode v).resCrcOk = crcOk := rfl
@[simp] theorem State.setResult_resEchoEq : (s.setResult code lenOk crcOk echoEq mode v).resEchoEq = echoEq := rfl
@[simp] theorem State.setResult_resMode : (s.setResult code lenOk crcOk echoEq mode v).resMode = mode := rfl
@[simp] theorem State.setResult_value : (s.setResult code lenOk crcOk echoEq mode v).value = v := rfl
@[simp] theorem State.setResult_errCause : (s.setResult code lenOk crcOk echoEq mode v).errCause = s.errCause := rfl
@[simp] theorem State.setResult_errAddr : (s.setResult code lenOk crcOk echoEq mode v).errAddr = s.errAddr := rfl
@[simp] theorem State.setResult_errWe : (s.setResult code lenOk crcOk echoEq mode v).errWe = s.errWe := rfl
@[simp] theorem State.setResult_pending : (s.setResult code lenOk crcOk echoEq mode v).pending = s.pending := rfl
@[simp] theorem State.setResult_response : (s.setResult code lenOk crcOk echoEq mode v).response = s.response := rfl
end

section
variable (cause : Option BusCause) (addr : Byte) (we : Bool)
@[simp] theorem State.setErrInfo_chkEn : (s.setErrInfo cause addr we).chkEn = s.chkEn := rfl
@[simp] theorem State.setErrInfo_acc : (s.setErrInfo cause addr we).acc = s.acc := rfl
@[simp] theorem State.setErrInfo_txBuf : (s.setErrInfo cause addr we).txBuf = s.txBuf := rfl
@[simp] theorem State.setErrInfo_txLen : (s.setErrInfo cause addr we).txLen = s.txLen := rfl
@[simp] theorem State.setErrInfo_expLen : (s.setErrInfo cause addr we).expLen = s.expLen := rfl
@[simp] theorem State.setErrInfo_rxBuf : (s.setErrInfo cause addr we).rxBuf = s.rxBuf := rfl
@[simp] theorem State.setErrInfo_rxCount : (s.setErrInfo cause addr we).rxCount = s.rxCount := rfl
@[simp] theorem State.setErrInfo_rxOvf : (s.setErrInfo cause addr we).rxOvf = s.rxOvf := rfl
@[simp] theorem State.setErrInfo_resCode : (s.setErrInfo cause addr we).resCode = s.resCode := rfl
@[simp] theorem State.setErrInfo_resLenOk : (s.setErrInfo cause addr we).resLenOk = s.resLenOk := rfl
@[simp] theorem State.setErrInfo_resCrcOk : (s.setErrInfo cause addr we).resCrcOk = s.resCrcOk := rfl
@[simp] theorem State.setErrInfo_resEchoEq : (s.setErrInfo cause addr we).resEchoEq = s.resEchoEq := rfl
@[simp] theorem State.setErrInfo_resMode : (s.setErrInfo cause addr we).resMode = s.resMode := rfl
@[simp] theorem State.setErrInfo_value : (s.setErrInfo cause addr we).value = s.value := rfl
@[simp] theorem State.setErrInfo_errCause : (s.setErrInfo cause addr we).errCause = cause := rfl
@[simp] theorem State.setErrInfo_errAddr : (s.setErrInfo cause addr we).errAddr = addr := rfl
@[simp] theorem State.setErrInfo_errWe : (s.setErrInfo cause addr we).errWe = we := rfl
@[simp] theorem State.setErrInfo_pending : (s.setErrInfo cause addr we).pending = s.pending := rfl
@[simp] theorem State.setErrInfo_response : (s.setErrInfo cause addr we).response = s.response := rfl
end

section
variable (r : Option Response)
@[simp] theorem State.setResponse_chkEn : (s.setResponse r).chkEn = s.chkEn := rfl
@[simp] theorem State.setResponse_acc : (s.setResponse r).acc = s.acc := rfl
@[simp] theorem State.setResponse_txBuf : (s.setResponse r).txBuf = s.txBuf := rfl
@[simp] theorem State.setResponse_txLen : (s.setResponse r).txLen = s.txLen := rfl
@[simp] theorem State.setResponse_expLen : (s.setResponse r).expLen = s.expLen := rfl
@[simp] theorem State.setResponse_rxBuf : (s.setResponse r).rxBuf = s.rxBuf := rfl
@[simp] theorem State.setResponse_rxCount : (s.setResponse r).rxCount = s.rxCount := rfl
@[simp] theorem State.setResponse_rxOvf : (s.setResponse r).rxOvf = s.rxOvf := rfl
@[simp] theorem State.setResponse_resCode : (s.setResponse r).resCode = s.resCode := rfl
@[simp] theorem State.setResponse_resLenOk : (s.setResponse r).resLenOk = s.resLenOk := rfl
@[simp] theorem State.setResponse_resCrcOk : (s.setResponse r).resCrcOk = s.resCrcOk := rfl
@[simp] theorem State.setResponse_resEchoEq : (s.setResponse r).resEchoEq = s.resEchoEq := rfl
@[simp] theorem State.setResponse_resMode : (s.setResponse r).resMode = s.resMode := rfl
@[simp] theorem State.setResponse_value : (s.setResponse r).value = s.value := rfl
@[simp] theorem State.setResponse_errCause : (s.setResponse r).errCause = s.errCause := rfl
@[simp] theorem State.setResponse_errAddr : (s.setResponse r).errAddr = s.errAddr := rfl
@[simp] theorem State.setResponse_errWe : (s.setResponse r).errWe = s.errWe := rfl
@[simp] theorem State.setResponse_pending : (s.setResponse r).pending = s.pending := rfl
@[simp] theorem State.setResponse_response : (s.setResponse r).response = r := rfl
end

section
variable (p : List BusEvent)
@[simp] theorem State.setPending_chkEn : (s.setPending p).chkEn = s.chkEn := rfl
@[simp] theorem State.setPending_acc : (s.setPending p).acc = s.acc := rfl
@[simp] theorem State.setPending_txBuf : (s.setPending p).txBuf = s.txBuf := rfl
@[simp] theorem State.setPending_txLen : (s.setPending p).txLen = s.txLen := rfl
@[simp] theorem State.setPending_expLen : (s.setPending p).expLen = s.expLen := rfl
@[simp] theorem State.setPending_rxBuf : (s.setPending p).rxBuf = s.rxBuf := rfl
@[simp] theorem State.setPending_rxCount : (s.setPending p).rxCount = s.rxCount := rfl
@[simp] theorem State.setPending_rxOvf : (s.setPending p).rxOvf = s.rxOvf := rfl
@[simp] theorem State.setPending_resCode : (s.setPending p).resCode = s.resCode := rfl
@[simp] theorem State.setPending_resLenOk : (s.setPending p).resLenOk = s.resLenOk := rfl
@[simp] theorem State.setPending_resCrcOk : (s.setPending p).resCrcOk = s.resCrcOk := rfl
@[simp] theorem State.setPending_resEchoEq : (s.setPending p).resEchoEq = s.resEchoEq := rfl
@[simp] theorem State.setPending_resMode : (s.setPending p).resMode = s.resMode := rfl
@[simp] theorem State.setPending_value : (s.setPending p).value = s.value := rfl
@[simp] theorem State.setPending_errCause : (s.setPending p).errCause = s.errCause := rfl
@[simp] theorem State.setPending_errAddr : (s.setPending p).errAddr = s.errAddr := rfl
@[simp] theorem State.setPending_errWe : (s.setPending p).errWe = s.errWe := rfl
@[simp] theorem State.setPending_pending : (s.setPending p).pending = p := rfl
@[simp] theorem State.setPending_response : (s.setPending p).response = s.response := rfl
end

end Sys2Proof.Machine
end

