-- ==== Sys2Proof/Laws/Ops.lean ====
section
/-! SUPPORT. What each shared operation does, once: the byte arrays, the response, the bus error, the build, the host's
events. -/

namespace Sys2Proof.Machine

/-! ### Byte arrays -/

/-- A byte of an array reads as the list of its bytes does. -/
theorem Buf8.get_eq_getD (b : Buf8) (i : Nat) : b.get i = b.bytes.getD i 0#8 := by
  rcases i with _ | _ | _ | _ | _ | _ | _ | _ | _ <;> rfl

/-- Reading the byte just written gives the value written. -/
theorem Buf8.get_set_self (b : Buf8) (v : Byte) {i : Nat} (h : i < 8) : (b.set i v).get i = v := by
  rcases i with _ | _ | _ | _ | _ | _ | _ | _ | _ <;> first | rfl | omega

/-- A write leaves every other byte alone. -/
theorem Buf8.get_set_other (b : Buf8) (v : Byte) {i j : Nat} (h : i ≠ j) : (b.set i v).get j = b.get j := by
  rcases i with _ | _ | _ | _ | _ | _ | _ | _ | _ <;>
    rcases j with _ | _ | _ | _ | _ | _ | _ | _ | _ <;> first | rfl | omega

/-- The zero array reads 0 everywhere. -/
@[simp] theorem Buf8.get_zero (i : Nat) : Buf8.zero.get i = 0#8 := by
  rcases i with _ | _ | _ | _ | _ | _ | _ | _ | _ <;> rfl

/-- Two arrays with the same 8 bytes are one. -/
theorem Buf8.ext_get {b c : Buf8} (h : ∀ i, i < 8 → b.get i = c.get i) : b = c := by
  cases b; cases c
  have h0 := h 0 (by omega)
  have h1 := h 1 (by omega)
  have h2 := h 2 (by omega)
  have h3 := h 3 (by omega)
  have h4 := h 4 (by omega)
  have h5 := h 5 (by omega)
  have h6 := h 6 (by omega)
  have h7 := h 7 (by omega)
  simp only [Buf8.get] at h0 h1 h2 h3 h4 h5 h6 h7
  simp [h0, h1, h2, h3, h4, h5, h6, h7]

@[simp] theorem Buf8.bytes_length (b : Buf8) : b.bytes.length = 8 := rfl

/-! ### The response, the bus error, the build, the events -/

/-- `respond` changes the bus response only (00_scope.md R8). -/
theorem State.respond_eq (s : State) (v : Word) : s.respond v = { s with response := some ⟨.ok, v⟩ } := rfl

/-- `acknowledge` is a response OK with data 0 (20_memory.md R45). -/
theorem State.acknowledge_eq (s : State) : s.acknowledge = { s with response := some ⟨.ok, 0#32⟩ } := rfl

/-- All that taking a bus error does (60_exceptions.md R126). -/
theorem State.raiseBusError_eq (s : State) (c : BusCause) (a : Byte) (w : Bool) :
    s.raiseBusError c a w =
      { s with errCause := some c, errAddr := a, errWe := w, response := some ⟨.err, 0#32⟩ } := rfl

/-- All that a build does (41_frame_builder.md R76). -/
theorem State.build_eq (s : State) (f : Buf8) (e : BitVec 4) :
    s.build f e = { s with txBuf := f, txLen := 8#4, expLen := e } := rfl

/-- An idle step changes the bus response only. -/
theorem State.idle_eq (s : State) : s.idle = { s with response := none } := rfl

/-- The reset event (70_reset_and_hazards.md R143). -/
theorem State.applyReset_eq (s : State) : s.applyReset = { State.reset with pending := s.pending } := rfl

/-- The host has nothing to issue. -/
theorem State.takeEvent_nil {s : State} (h : s.pending = []) : s.takeEvent = none := by
  simp [State.takeEvent, h]

/-- The host's next event leaves its list, and nothing else changes. -/
theorem State.takeEvent_cons {s : State} {e : BusEvent} {rest : List BusEvent} (h : s.pending = e :: rest) :
    s.takeEvent = some (e, s.setPending rest) := by
  simp [State.takeEvent, h]

/-! ### Steps -/

/-- All that one step can do. -/
theorem step_cases (s : State) :
    (s.pending = [] ∧ step s = .next s.idle) ∨
    (∃ rest, s.pending = .reset :: rest ∧ step s = .next (s.setPending rest).applyReset) ∨
    (∃ t rest i, s.pending = .transaction t :: rest ∧ decode t = .ok i ∧ step s = exec i (s.setPending rest)) ∨
    (∃ t rest c, s.pending = .transaction t :: rest ∧ decode t = .error c ∧
      step s = .next ((s.setPending rest).raiseBusError c t.addr t.we)) := by
  cases hp : s.pending with
  | nil => exact .inl ⟨rfl, by simp [step, State.takeEvent_nil hp]⟩
  | cons e rest =>
    have he := State.takeEvent_cons hp
    cases e with
    | reset => exact .inr (.inl ⟨rest, rfl, by simp [step, he]⟩)
    | transaction t =>
      cases hd : decode t with
      | ok i => exact .inr (.inr (.inl ⟨t, rest, i, rfl, hd, by simp [step, he, hd]⟩))
      | error c => exact .inr (.inr (.inr ⟨t, rest, c, rfl, hd, by simp [step, he, hd]⟩))

/-- `withFetchWord` puts a transaction at the head of what the host will issue, and changes nothing else. -/
theorem State.withFetchWord_eq (s : State) (nbits w : Nat) :
    s.withFetchWord nbits w = { s with pending := .transaction (tableBusWord nbits w) :: s.pending } := rfl

end Sys2Proof.Machine
end

