-- ==== Sys2Proof/Laws/Parser.lean ====
section
/-! SUPPORT. What a push, the three checks, the verdict and a parse do (42_receive.md R92, 43_parser.md R105 to R108). -/

namespace Sys2Proof.Machine

/-- All that a push can do (42_receive.md R92). -/
theorem pushByte_cases (s : State) (b : Byte) :
    (s.rxCount.toNat < 8 ∧
      pushByte s b = { s with rxBuf := s.rxBuf.set s.rxCount.toNat b, rxCount := s.rxCount + 1#4 }) ∨
    (8 ≤ s.rxCount.toNat ∧ pushByte s b = { s with rxOvf := true }) := by
  by_cases h : s.rxCount.toNat < 8
  · exact .inl ⟨h, by simp [pushByte, BitVec.lt_def, Config.rxCapacity, h, State.setRx]⟩
  · exact .inr ⟨by omega, by simp [pushByte, BitVec.lt_def, Config.rxCapacity, h, State.setRxOvf]⟩

/-- The length check (43_parser.md R105). -/
theorem lenOk_iff (s : State) : lenOk s = true ↔ s.rxOvf = false ∧ s.rxCount = s.expLen := by
  simp [lenOk]

/-- The checksum check (43_parser.md R106). -/
theorem crcOk_iff (s : State) : crcOk s = true ↔
    s.rxOvf = false ∧ 2 ≤ s.rxCount.toNat ∧ crc16 (coveredBytes s) = receivedTrailer s := by
  simp [crcOk, and_assoc]

/-- The echo comparison (43_parser.md R107). -/
theorem echoEq_iff (s : State) : echoEq s = true ↔
    s.rxOvf = false ∧ s.txLen ≠ 0#4 ∧ s.rxCount = s.txLen ∧
      ∀ i, i < s.rxCount.toNat → s.rxBuf.get i = s.txBuf.get i := by
  simp [echoEq, echoBytesEqual, and_assoc]

/-- All that a parse does (43_parser.md R108). -/
theorem parseFrame_eq (s : State) (m : ParseMode) :
    parseFrame s m = { s with resCode := verdict s m, resLenOk := lenOk s, resCrcOk := crcOk s, resEchoEq := echoEq s,
                              resMode := m, value := parsedValue s m } := rfl

end Sys2Proof.Machine
end

