-- ==== Sys2Proof/Laws/PerInstr.lean ====
section
/-! SUPPORT. Statements per instruction: the canonical word of an instruction selects its row of the opcode table
(30_encoding.md R58). One lemma per constructor of `Instr`. -/

namespace Sys2Proof.Laws.EncodesItsRow

/-- The word of a well-formed instruction selects its row of the table. -/
def Statement (i : Instr) : Prop := i.wellFormed = true → i.row.selects (encode i) = true

/-- The bits a mask of `WE` and `ADDR` keeps do not depend on the data. -/
theorem address_bits (w : Bool) (a : Byte) (d : Word) : transaction w a d &&& addressMask = transaction w a 0#32 := by
  apply BitVec.eq_of_getLsbD_eq
  intro i hi
  have hm : ∀ j : Fin 41, addressMask.getLsbD j = decide (32 ≤ j.val) := by decide
  have hj := hm ⟨i, hi⟩
  simp only at hj
  simp only [BitVec.getLsbD_and, hj, transaction, BitVec.getLsbD_append]
  by_cases h : i < 32
  · simp [h]
  · simp [h, Nat.le_of_not_lt h]

/-- A row whose mask covers `WE` and `ADDR` is selected by every word with the row's direction and offset. -/
theorem selects_address {m : String} {p : BusWord} {w : Bool} {a : Byte} (d : Word) (h : transaction w a 0#32 = p) :
    (⟨m, p, addressMask⟩ : OpcodeRow).selects (transaction w a d) = true := by
  simp [OpcodeRow.selects, address_bits, h]

theorem ctrlRd : Statement .ctrlRd := fun _ => by decide
theorem ctrlWr (en : Bool) : Statement (.ctrlWr en) := fun _ => selects_address _ (by decide)
theorem crcInit : Statement .crcInit := fun _ => by decide
theorem crcByte (b : Byte) : Statement (.crcByte b) := fun _ => selects_address _ (by decide)
theorem crcRd : Statement .crcRd := fun _ => by decide
theorem buildRead : Statement .buildRead := fun _ => by decide
theorem buildDisable : Statement .buildDisable := fun _ => by decide
theorem buildGetcal : Statement .buildGetcal := fun _ => by decide
theorem buildSetcal (wdata : Word) : Statement (.buildSetcal wdata) := fun _ => selects_address _ (by decide)
theorem txlenRd : Statement .txlenRd := fun _ => by decide
theorem txdata0Rd : Statement .txdata0Rd := fun _ => by decide
theorem txdata1Rd : Statement .txdata1Rd := fun _ => by decide
theorem explenRd : Statement .explenRd := fun _ => by decide
theorem explenWr (wdata : Word) : Statement (.explenWr wdata) := fun _ => selects_address _ (by decide)
theorem rxClear : Statement .rxClear := fun _ => by decide
theorem rxPush (b : Byte) : Statement (.rxPush b) := fun _ => selects_address _ (by decide)
theorem rxstatRd : Statement .rxstatRd := fun _ => by decide
theorem rxbuf0Rd : Statement .rxbuf0Rd := fun _ => by decide
theorem rxbuf1Rd : Statement .rxbuf1Rd := fun _ => by decide
theorem parseMeas : Statement .parseMeas := fun _ => by decide
theorem parseAck : Statement .parseAck := fun _ => by decide
theorem resultRd : Statement .resultRd := fun _ => by decide
theorem valueRd : Statement .valueRd := fun _ => by decide
theorem errRd : Statement .errRd := fun _ => by decide
theorem errClear : Statement .errClear := fun _ => by decide

end Sys2Proof.Laws.EncodesItsRow
end

