-- ==== Sys2Proof/Laws/Run.lean ====
section
/-! SUPPORT. Runs of several steps and of several operations, one at a time. -/

namespace Sys2Proof.Machine

/-- The first step of a run of any machine. -/
theorem run_succ_of_step (M : Host.Core) (n : Nat) (s s' : M.State) (h : M.step s = .next s') :
    M.run (n + 1) s = M.run n s' := by
  rw [Host.Core.run, h]

/-- The first step of a run of the CFE. -/
theorem core_run_succ (n : Nat) (s s' : State) (h : step s = .next s') :
    Host.Core.run Sys2Proof.core (n + 1) s = Host.Core.run Sys2Proof.core n s' :=
  run_succ_of_step Sys2Proof.core n s s' h

/-- The first of several operations. -/
theorem execAll_cons (i : Instr) (is : List Instr) (s s' : State) (h : exec i s = .next s') :
    execAll (i :: is) s = execAll is s' := by
  simp [execAll, h]

/-- Operations one after the other, in two parts. -/
theorem execAll_append (is js : List Instr) (s s' : State) (h : execAll is s = .next s') :
    execAll (is ++ js) s = execAll js s' := by
  induction is generalizing s with
  | nil => simp only [execAll, Host.Outcome.next.injEq] at h; subst h; rfl
  | cons i is ih =>
    simp only [execAll] at h
    split at h
    · rename_i s1 h1
      rw [List.cons_append, execAll_cons _ _ _ _ h1]
      exact ih s1 h
    · cases h
    · cases h

end Sys2Proof.Machine
end

