-- ==== Sys2Proof/Tests/Slice0.lean ====
section
/-! SUPPORT. The model's own tests. Every expected value is the spec's: a word of 30_encoding.md R58 or a vector of
95_test_vectors.md (named in the comment above it), or a worked example of the rule of the instruction. -/

-- Each kernel evaluation below would otherwise wait in a thread of its own, and their stacks add up.
set_option Elab.async false

namespace Sys2Proof.Tests

open Sys2Proof Sys2Proof.Machine

/-! ### Helpers -/

/-- The state after the host issues one word, one step. -/
def ran (t : BusWord) (s : State) : State :=
  match step (s.issueNext t) with
  | .next s' => s'
  | .fault _ => s
  | .refused _ => s

/-- The response to one word issued in a state. -/
def answer (t : BusWord) (s : State) : Option Response := (ran t s).response

/-- A response OK with this data. -/
def okData (v : Word) : Option Response := some ⟨.ok, v⟩

/-- A response ERR. -/
def errData : Option Response := some ⟨.err, 0#32⟩

/-- From reset: a built frame, an expected length, and received bytes. -/
def received (f : Buf8) (e : BitVec 4) (bs : List Byte) : State :=
  { State.reset with txBuf := f, txLen := 8#4, expLen := e, rxBuf := Buf8.ofBytes bs, rxCount := BitVec.ofNat 4 bs.length }

/-- The reply of PV1, source §8: a measurement of 500. -/
def reply500 : List Byte := [0xFE#8, 0x04#8, 0x02#8, 0x01#8, 0xF4#8, 0xAD#8, 0x33#8]

/-! ### Well-formedness refuses an ill-formed term of each check -/

theorem test_setcal_above_range_ill_formed : (Instr.buildSetcal 0x10000#32).wellFormed = false := by decide
theorem test_setcal_at_bound_well_formed : (Instr.buildSetcal 0xFFFF#32).wellFormed = true := by decide
theorem test_explen_above_range_ill_formed : (Instr.explenWr 9#32).wellFormed = false := by decide
theorem test_explen_at_bound_well_formed : (Instr.explenWr 8#32).wellFormed = true := by decide

/-! ### Decoding: a word of every row (30_encoding.md R58; operand words from 95_test_vectors.md) -/

theorem test_decode_ctrlRd : decode 0x000FFFFFFFF#41 = .ok .ctrlRd := by decide
theorem test_decode_ctrlWr : decode 0x100FFFFFFFE#41 = .ok (.ctrlWr false) := by decide
theorem test_decode_ctrlWr_set : decode 0x10000000003#41 = .ok (.ctrlWr true) := by decide
theorem test_decode_crcInit : decode 0x10400000000#41 = .ok .crcInit := by decide
theorem test_decode_crcByte : decode 0x108FFFFFF31#41 = .ok (.crcByte 0x31#8) := by decide
theorem test_decode_crcRd : decode 0x00C00000000#41 = .ok .crcRd := by decide
theorem test_decode_buildRead : decode 0x11000000000#41 = .ok .buildRead := by decide
theorem test_decode_buildDisable : decode 0x11000000001#41 = .ok .buildDisable := by decide
theorem test_decode_buildGetcal : decode 0x11000000002#41 = .ok .buildGetcal := by decide
theorem test_decode_buildSetcal : decode 0x1140000FFFF#41 = .ok (.buildSetcal 0xFFFF#32) := by decide
theorem test_decode_txlenRd : decode 0x01800000000#41 = .ok .txlenRd := by decide
theorem test_decode_txdata0Rd : decode 0x01C00000000#41 = .ok .txdata0Rd := by decide
theorem test_decode_txdata1Rd : decode 0x02000000000#41 = .ok .txdata1Rd := by decide
theorem test_decode_explenRd : decode 0x02400000000#41 = .ok .explenRd := by decide
theorem test_decode_explenWr : decode 0x12400000008#41 = .ok (.explenWr 8#32) := by decide
theorem test_decode_rxClear : decode 0x12800000000#41 = .ok .rxClear := by decide
theorem test_decode_rxPush : decode 0x12C000000F4#41 = .ok (.rxPush 0xF4#8) := by decide
theorem test_decode_rxstatRd : decode 0x03000000000#41 = .ok .rxstatRd := by decide
theorem test_decode_rxbuf0Rd : decode 0x03400000000#41 = .ok .rxbuf0Rd := by decide
theorem test_decode_rxbuf1Rd : decode 0x03800000000#41 = .ok .rxbuf1Rd := by decide
theorem test_decode_parseMeas : decode 0x13C00000000#41 = .ok .parseMeas := by decide
theorem test_decode_parseAck : decode 0x13C00000001#41 = .ok .parseAck := by decide
theorem test_decode_resultRd : decode 0x04000000000#41 = .ok .resultRd := by decide
theorem test_decode_valueRd : decode 0x04400000000#41 = .ok .valueRd := by decide
theorem test_decode_errRd : decode 0x04800000000#41 = .ok .errRd := by decide
theorem test_decode_errClear : decode 0x148DEADBEEF#41 = .ok .errClear := by decide

/-! ### Decoding: the bounds of every error cause (30_encoding.md R59; V-ERR-1 to 12, V-BLD-12, V-CTL-8, PV30) -/

theorem test_misaligned_before_unmapped : decode 0x04D00000000#41 = .error .misaligned := by decide
theorem test_misaligned_inside_ctrl : decode 0x10200000000#41 = .error .misaligned := by decide
theorem test_first_unmapped : decode 0x04C00000000#41 = .error .unmapped := by decide
theorem test_last_unmapped : decode 0x0FC00000000#41 = .error .unmapped := by decide
theorem test_write_read_only : decode 0x10C00000000#41 = .error .wrongDirection := by decide
theorem test_read_write_only_ignores_data : decode 0x01400010000#41 = .error .wrongDirection := by decide
theorem test_build_selector_three : decode 0x11000000003#41 = .error .illegalCommand := by decide
theorem test_build_selector_whole_word : decode 0x11000000100#41 = .error .illegalCommand := by decide
theorem test_parse_selector_two : decode 0x13C00000002#41 = .error .illegalCommand := by decide
theorem test_setcal_65536 : decode 0x11400010000#41 = .error .invalidParameter := by decide
theorem test_explen_nine : decode 0x12400000009#41 = .error .invalidParameter := by decide
theorem test_explen_sixteen_not_truncated : decode 0x12400000010#41 = .error .invalidParameter := by decide

/-! ### One step of every instruction -/

/-- V-CTL-1. -/
theorem test_ctrlRd : answer 0x00000000000#41 State.reset = okData 1#32 := by decide
/-- V-CTL-2. -/
theorem test_ctrlWr : (ran 0x100FFFFFFFE#41 State.reset).chkEn = false := by decide
/-- V-ENG-4. -/
theorem test_crcInit : (ran 0x10400000000#41 (State.reset.setAcc 0x1234#16)).acc = 0xFFFF#16 := by decide
/-- V-ENG-3. -/
theorem test_crcByte : (ran 0x108FFFFFF31#41 State.reset).acc = 0x947E#16 := by decide +kernel
/-- V-STEP-4. -/
theorem test_crcByte_from_other : (ran 0x10800000056#41 (State.reset.setAcc 0x1234#16)).acc = 0xE993#16 := by decide +kernel
/-- R74's example: the read after `CRC.OF FE, 04, 00, 03, 00, 01`. -/
theorem test_crcRd :
    answer 0x00C00000000#41 (State.reset.setAcc (crc16 [0xFE#8, 0x04#8, 0x00#8, 0x03#8, 0x00#8, 0x01#8])) =
      okData 0xC5D5#32 := by decide +kernel
/-- V-BLD-1. -/
theorem test_buildRead : answer 0x02000000000#41 (ran 0x11000000000#41 State.reset) = okData 0xC5D50100#32 := by decide
/-- V-BLD-17: the build overwrites EXP_LEN. -/
theorem test_buildDisable : (ran 0x11000000001#41 (State.reset.setExpLen 3#4)).expLen = 8#4 := by decide
/-- V-BLD-3. -/
theorem test_buildGetcal : answer 0x02000000000#41 (ran 0x11000000002#41 State.reset) = okData 0xC3A10100#32 := by decide
/-- V-BLD-7: the period is big-endian, the trailer little-endian. -/
theorem test_buildSetcal :
    answer 0x02000000000#41 (ran 0x11400001234#41 State.reset) = okData 0x74A13412#32 := by decide +kernel
/-- V-BLD-10: the frame survives an illegal period. -/
theorem test_buildSetcal_illegal :
    (ran 0x114FFFFFFFF#41 (ran 0x11000000000#41 State.reset)).txBuf = readFrame := by decide
/-- V-BLD-15. -/
theorem test_txlenRd : answer 0x01800000000#41 State.reset = okData 0#32 := by decide
/-- V-BLD-6. -/
theorem test_txdata0Rd :
    answer 0x01C00000000#41 (ran 0x114000000B4#41 State.reset) = okData 0x1F0006FE#32 := by decide +kernel
/-- V-BLD-6. -/
theorem test_txdata1Rd :
    answer 0x02000000000#41 (ran 0x114000000B4#41 State.reset) = okData 0x74ACB400#32 := by decide +kernel
/-- V-BLD-2. -/
theorem test_explenRd : answer 0x02400000000#41 (ran 0x11000000001#41 State.reset) = okData 8#32 := by decide
/-- V-CTL-5. -/
theorem test_explenWr : (ran 0x12400000008#41 State.reset).expLen = 8#4 := by decide
/-- V-CTL-7: ERR_INFO after EXPLEN.WR 9. -/
theorem test_explenWr_illegal : answer 0x04800000000#41 (ran 0x12400000009#41 State.reset) = okData 0x12405#32 := by decide
/-- V-RX-6: clearing an overflowed buffer. -/
theorem test_rxClear :
    answer 0x03000000000#41 (ran 0x12800000000#41 ((received readFrame 7#4 (reply500 ++ [0#8])).setRxOvf true)) =
      okData 0#32 := by decide
/-- V-RX-3: the second byte, its upper data bits ignored. -/
theorem test_rxPush :
    answer 0x03400000000#41 (ran 0x12C00000104#41 (ran 0x12C000000FE#41 State.reset)) = okData 0x000004FE#32 := by decide
/-- V-RX-8: the ninth byte is answered OK, dropped, and sets OVF. -/
theorem test_rxPush_full :
    answer 0x03000000000#41 (ran 0x12C00000000#41 (received readFrame 7#4 (reply500 ++ [0x55#8]))) =
      okData 0x18#32 := by decide
/-- V-RX-5. -/
theorem test_rxstatRd : answer 0x03000000000#41 (received readFrame 7#4 reply500) = okData 7#32 := by decide
/-- V-RX-5. -/
theorem test_rxbuf0Rd : answer 0x03400000000#41 (received readFrame 7#4 reply500) = okData 0x010204FE#32 := by decide
/-- V-RX-5. -/
theorem test_rxbuf1Rd : answer 0x03800000000#41 (received readFrame 7#4 reply500) = okData 0x0033ADF4#32 := by decide
/-- PV1: the §8 example, 500. -/
theorem test_parseMeas : (ran 0x13C00000000#41 (received readFrame 7#4 reply500)).value = 500#16 := by decide +kernel
/-- PV8: length and trailer good, below the 5-byte floor. -/
theorem test_parseMeas_floor :
    answer 0x04000000000#41 (ran 0x13C00000000#41 (received readFrame 4#4 [0xFE#8, 0x04#8, 0x40#8, 0x13#8])) =
      okData 0x1B#32 := by decide +kernel
/-- PV10: an exact echo. -/
theorem test_parseAck :
    answer 0x04000000000#41 (ran 0x13C00000001#41 (received disableFrame 8#4 disableFrame.bytes)) =
      okData 0x79#32 := by decide +kernel
/-- PV20: two bytes, an empty covered sequence. -/
theorem test_parseAck_two_bytes :
    answer 0x04000000000#41 (ran 0x13C00000001#41 (received readFrame 2#4 [0xFF#8, 0xFF#8])) = okData 0x59#32 := by
  decide +kernel
/-- V-ERR-13's register at reset; PV34. -/
theorem test_resultRd : answer 0x04000000000#41 State.reset = okData 0#32 := by decide
/-- PV15: 65535 is not sign-extended. -/
theorem test_valueRd : answer 0x04400000000#41 { State.reset with value := 0xFFFF#16 } = okData 0xFFFF#32 := by decide
/-- V-ERR-14: the last error overwrites. -/
theorem test_errRd :
    answer 0x04800000000#41 (ran 0x04C00000000#41 (ran 0x11000000003#41 State.reset)) = okData 0x4C01#32 := by decide
/-- V-ERR-15. -/
theorem test_errClear :
    answer 0x04800000000#41 (ran 0x148DEADBEEF#41 (ran 0x11000000003#41 State.reset)) = okData 0#32 := by decide

/-! ### The checksum, the bus error, the assembler -/

/-- V-CRC-7. -/
theorem test_crc16_check_value :
    crc16 [0x31#8, 0x32#8, 0x33#8, 0x34#8, 0x35#8, 0x36#8, 0x37#8, 0x38#8, 0x39#8] = 0x4B37#16 := by decide +kernel
/-- S8: the erring transaction's own response. -/
theorem test_error_response : answer 0x11400010000#41 State.reset = errData := by decide
/-- R127's example: a read at 0xFF is MISALIGNED. -/
theorem test_error_priority : (ran 0x0FF00000000#41 State.reset).errCause = some .misaligned := by decide
/-- R55's example word in R63's syntax. -/
theorem test_assemble_byte : assembleLine "CRC.BYTE 0x31 ; one byte" = some 0x10800000031#41 := by decide +kernel
/-- P7, row 3. -/
theorem test_assemble_write : assembleLine "WR TX_DATA0, 5" = some 0x11C00000005#41 := by decide +kernel
/-- P7, row 5. -/
theorem test_disassemble_illegal : disassemble 0x01300000000#41 = "ILLEGAL(MISALIGNED) 0x01300000000" := by decide +kernel
/-- Log entry 9: a word that fails the range check prints as illegal, though it matches the row EXPLEN.WR. -/
theorem test_disassemble_range : disassemble 0x12400000009#41 = "ILLEGAL(INVALID_PARAMETER) 0x12400000009" := by decide +kernel
theorem test_disassemble_operand : disassemble 0x108FFFFFF31#41 = "CRC.BYTE 0x31" := by decide +kernel

/-! ### Witnesses: the hypotheses of each obligation hold together -/

/-- A host that builds, then resets. -/
def hostBuilds : State := State.reset.setPending [.transaction 0x11000000000#41, .reset]

/-- A host whose transaction is misaligned. -/
def hostErrs : State := State.reset.setPending [.transaction 0x04D00000000#41]

theorem witness_StepRunsDecodedInstruction :
    hostBuilds.pending = .transaction 0x11000000000#41 :: [.reset] ∧ decode 0x11000000000#41 = .ok .buildRead := by decide
theorem witness_BusErrorRecordsOnlyErrInfo :
    hostErrs.pending = .transaction 0x04D00000000#41 :: [] ∧ decode 0x04D00000000#41 = .error .misaligned := by decide
theorem witness_EveryTransactionAnswersOkOrErr : hostErrs.pending = .transaction 0x04D00000000#41 :: [] := by decide
theorem witness_ResetEventRestoresResetState :
    (hostBuilds.setPending [.reset]).pending = .reset :: [] := by decide
theorem witness_IdleStepKeepsEveryElement : (received readFrame 7#4 reply500).pending = [] := by decide
theorem witness_PlacedWordRunsAtOnce : decodeTableWord 48 0x11400000000 = some (.buildSetcal 0#32) := by decide
theorem witness_IssuedInstructionsRunInOrder :
    (∀ i ∈ [Instr.buildSetcal 180#32, .txlenRd], i.wellFormed = true) ∧
      (State.reset.setPending (issueAll [.buildSetcal 180#32, .txlenRd] ++ [.reset])).pending =
        issueAll [.buildSetcal 180#32, .txlenRd] ++ [.reset] := by decide
theorem witness_DecodeOfEncodeIsTheInstruction : (Instr.buildSetcal 0xFFFF#32).wellFormed = true := by decide
theorem witness_DecodeAgreesWithOpcodeTable_decoded :
    decode 0x12400000008#41 = .ok (.explenWr 8#32) ∧ (Instr.explenWr 8#32).row.selects 0x12400000008#41 = true := by decide
theorem witness_DecodeAgreesWithOpcodeTable_range :
    (Instr.explenWr 0#32).row ∈ opcodeTable ∧ (Instr.explenWr 0#32).row.selects 0x12400000009#41 = true := by decide
theorem witness_CrcDetectsAnyChangedByte : (0xF4#8 : Byte) ≠ 0xF5#8 := by decide
theorem witness_FixedBuildsPlaceTheirFrames : (3#32 : Word).toNat ∉ [0, 1, 2] := by decide
theorem witness_SetcalBuildsPeriodFrameOrErrs_legal :
    (0xFFFF#32 : Word).toNat ≤ 0xFFFF ∧
      0xB3AD#16 = crc16 [0xFE#8, 0x06#8, 0x00#8, 0x1F#8, (0xFFFF#32 : Word).extractLsb' 8 8,
        (0xFFFF#32 : Word).extractLsb' 0 8] := by decide +kernel
theorem witness_SetcalBuildsPeriodFrameOrErrs_illegal : 0xFFFF < (0x10000#32 : Word).toNat := by decide
theorem witness_BuiltFramesHaveCommandFormat_setcal :
    ∃ t, exec (.buildSetcal ((0x00B4#16 : Half).setWidth 32)) State.reset = .next t := ⟨_, rfl⟩
theorem witness_BuiltFramesHaveCommandFormat_fixed :
    (∃ t, exec .buildRead State.reset = .next t) ∧ (∃ t, exec .buildDisable State.reset = .next t) ∧
      ∃ t, exec .buildGetcal State.reset = .next t := ⟨⟨_, rfl⟩, ⟨_, rfl⟩, ⟨_, rfl⟩⟩
theorem witness_RxPushAppendsOrOverflows_room : (received readFrame 7#4 reply500).rxCount.toNat < 8 := by decide
theorem witness_RxPushAppendsOrOverflows_full :
    8 ≤ (received readFrame 7#4 (reply500 ++ [0#8])).rxCount.toNat := by decide
theorem witness_RxPushAppendsOrOverflows_overflowed :
    ((received readFrame 7#4 (reply500 ++ [0#8])).setRxOvf true).rxOvf = true := by decide
theorem witness_ExpLenHoldsZeroToEightOrErrs_legal : (8#32 : Word).toNat ≤ 8 := by decide
theorem witness_ExpLenHoldsZeroToEightOrErrs_illegal : 8 < (9#32 : Word).toNat := by decide
theorem witness_ParseLatchesVerdictFlagsAndValue_selector : (2#32 : Word).toNat ∉ [0, 1] := by decide
theorem witness_ParseLatchesVerdictFlagsAndValue_measurement :
    (received disableFrame 8#4 disableFrame.bytes).rxCount.toNat ≤ 8 ∧ ((Instr.parseMeas = .parseMeas ∧ ParseMode.measurement = .measurement) ∨
      (Instr.parseMeas = .parseAck ∧ ParseMode.measurement = .acknowledgment)) := by decide
theorem witness_ParseLatchesVerdictFlagsAndValue_acknowledgment :
    (received readFrame 7#4 []).rxCount.toNat ≤ 8 ∧ ((Instr.parseAck = .parseMeas ∧ ParseMode.acknowledgment = .measurement) ∨
      (Instr.parseAck = .parseAck ∧ ParseMode.acknowledgment = .acknowledgment)) := by decide
theorem witness_ShortMeasurementNeverDecodes_four :
    (received readFrame 4#4 [0xFE#8, 0x04#8, 0x40#8, 0x13#8]).rxOvf = false ∧
      (received readFrame 4#4 [0xFE#8, 0x04#8, 0x40#8, 0x13#8]).rxCount.toNat < 5 ∧
      (received readFrame 4#4 [0xFE#8, 0x04#8, 0x40#8, 0x13#8]).rxCount ≠ 0#4 := by decide
theorem witness_ShortMeasurementNeverDecodes_none :
    (received readFrame 7#4 []).rxOvf = false ∧ (received readFrame 7#4 []).rxCount.toNat < 5 ∧
      (received readFrame 7#4 []).rxCount = 0#4 := by decide

/-- RX_BUF holds the echo of the built DISABLE frame. -/
def echoed : State := received disableFrame 8#4 disableFrame.bytes

theorem echoed_checked : echoed.BuiltFrameChecked := fun _ => by decide +kernel

theorem witness_ExactEchoOfBuiltFrameIsOk :
    echoed.BuiltFrameChecked ∧ echoed.txLen = 8#4 ∧ echoed.rxBuf = echoed.txBuf ∧ echoed.rxCount = 8#4 ∧
      echoed.rxOvf = false ∧ echoed.expLen = 8#4 := ⟨echoed_checked, by decide⟩
theorem witness_ReadsArePureAndWritesIdempotent_read : isReadInstr .errRd = true := by decide
theorem witness_ReadsArePureAndWritesIdempotent_write :
    (∀ b, Instr.parseMeas ≠ .crcByte b) ∧ (∀ b, Instr.parseMeas ≠ .rxPush b) ∧
      ∃ t, exec .parseMeas echoed = .next t := ⟨by simp, by simp, _, rfl⟩
theorem witness_ReadsArePureAndWritesIdempotent_error :
    ∃ t, hostErrs.pending = .transaction 0x04D00000000#41 :: [] ∧ step hostErrs = .next t ∧
      t.response = some ⟨.err, 0#32⟩ := ⟨_, rfl, rfl, rfl⟩
theorem witness_EachElementHasItsWriters :
    (Instr.explenWr 8#32).wellFormed = true ∧ ∃ t, exec (.explenWr 8#32) State.reset = .next t ∧
      t.expLen ≠ State.reset.expLen := ⟨by decide, _, rfl, by decide⟩
theorem witness_OnlyTheEngineTouchesAcc :
    Instr.parseAck ≠ .crcInit ∧ (∀ b, Instr.parseAck ≠ .crcByte b) ∧ Instr.parseAck ≠ .crcRd ∧
      ∃ t, exec .parseAck echoed = .next t := ⟨by simp, by simp, by simp, _, rfl⟩
theorem witness_ResultIsStaleUntilParseOrReset :
    hostBuilds.pending = .transaction 0x11000000000#41 :: [.reset] ∧ decode 0x11000000000#41 ≠ .ok .parseMeas ∧
      decode 0x11000000000#41 ≠ .ok .parseAck ∧ ∃ t, step hostBuilds = .next t :=
  ⟨by decide, by decide, by decide, _, rfl⟩
theorem witness_ResultIsStaleUntilParseOrReset_idle :
    echoed.pending = [] ∧ ∃ t, step echoed = .next t := ⟨rfl, _, rfl⟩
theorem witness_OnlyResetUnbuilds :
    (echoed.issueNext 0x12800000000#41).pending = .transaction 0x12800000000#41 :: [] ∧ echoed.txLen ≠ 0#4 ∧
      echoed.txBuf ≠ Buf8.zero ∧ ∃ t, step (echoed.issueNext 0x12800000000#41) = .next t :=
  ⟨by decide, by decide, by decide, _, rfl⟩

/-- After a build: the invariants hold of a state that is not the reset state. -/
theorem built_inv : ({ State.reset with txBuf := readFrame, txLen := 8#4, expLen := 7#4 } : State).Inv where
  txLen_zero_or_full := by decide
  txBuf_zero_before_build := by decide
  expLen_le := by decide
  rxCount_le := by decide
  overflow_full := by decide
  rxBuf_zero_beyond := fun i _ _ => by rcases i with _ | _ | _ | _ | _ | _ | _ | _ | _ <;> rfl
  resCode_le := by decide
  errCause_le := by decide
  no_error_no_record := by decide

theorem witness_StepKeepsWellFormedness :
    ∃ s t : State, s.Inv ∧ s.txLen = 8#4 ∧ step s = .next t := ⟨_, _, built_inv, rfl, rfl⟩
theorem witness_ReachableStatesAreWellFormed :
    ∃ t, Host.Core.run core 1 (State.reset.setPending [.transaction 0x11000000000#41]) = .next t := ⟨_, rfl⟩
theorem witness_BuiltFrameChecksumIsKept :
    echoed.BuiltFrameChecked ∧ echoed.txLen ≠ 0#4 ∧ ∃ t, step echoed = .next t := ⟨echoed_checked, by decide, _, rfl⟩

/-- A state that holds an OK measurement. -/
def measured : State :=
  { received readFrame 7#4 reply500 with resCode := .ok, resLenOk := true, resCrcOk := true, value := 500#16 }

theorem witness_ResultConsistencyIsKept :
    measured.ResultConsistent ∧ measured.value ≠ 0#16 ∧ ∃ t, step measured = .next t :=
  ⟨⟨by decide, by decide, by decide, by decide, by decide, by decide⟩, by decide, _, rfl⟩

end Sys2Proof.Tests
end

/-! ## Proofs of the family of 10_state.md: what an instruction and a step do to the state, the invariants of R18 -/

section
/-! ### The decoder at a register, and the step of a pending transaction -/

namespace Sys2Proof

/-- Every register lies at an aligned offset (10_state.md R19). -/
theorem RegName.offset_aligned (r : RegName) : r.offset.extractLsb' 0 2 = 0#2 := by cases r <;> decide

/-- At a register's own offset the decoder asks only the direction, then the data (30_encoding.md R57). -/
theorem decode_transaction_offset (we : Bool) (r : RegName) (d : Word) :
    decode (transaction we r.offset d) = if we then decodeWrite r d else decodeRead r := by
  simp [decodeFields, r.offset_aligned, registerAt_offset]

/-- Every write to a read-only register is WRONG_DIRECTION, whatever its data (30_encoding.md R57). -/
theorem decode_write_ro {r : RegName} (d : Word) (h : r.access = .ro) :
    decode (transaction true r.offset d) = .error .wrongDirection := by
  rw [decode_transaction_offset, if_pos rfl, decodeWrite_ro r d h]

theorem decodeTableWord_eq_some_iff (nbits w : Nat) (i : Instr) :
    decodeTableWord nbits w = some i ↔ decode (tableBusWord nbits w) = .ok i := by
  unfold decodeTableWord
  cases decode (tableBusWord nbits w) <;> simp

namespace Machine

/-- A pending transaction that decodes runs its instruction on the state without it (20_memory.md R47). -/
theorem step_of_decode_ok {s : State} {t : BusWord} {rest : List BusEvent} {i : Instr}
    (hp : s.pending = .transaction t :: rest) (hd : decode t = .ok i) : step s = exec i (s.setPending rest) := by
  simp [step, State.takeEvent_cons hp, hd]

end Machine
end Sys2Proof
end

section
/-! ### What an instruction does, once for all proofs -/

namespace Sys2Proof.Machine

/-- The frame and the expected length that a build places (41_frame_builder.md R79 to R82). -/
def builtFrame : Instr → Option (Buf8 × BitVec 4)
  | .buildRead => some (readFrame, 7#4)
  | .buildDisable => some (disableFrame, 8#4)
  | .buildGetcal => some (getcalFrame, 7#4)
  | .buildSetcal wdata => some (setcalFrame (periodOperand wdata), 8#4)
  | _ => none

/-- The four builds are the instructions with a frame. -/
theorem eq_build_of_builtFrame {i : Instr} {f : Buf8} {e : BitVec 4} (h : builtFrame i = some (f, e)) :
    i = .buildRead ∨ i = .buildDisable ∨ i = .buildGetcal ∨ ∃ d, i = .buildSetcal d := by
  cases i <;> simp_all [builtFrame]

/-- A build expects 7 or 8 bytes in return (41_frame_builder.md R78). -/
theorem builtFrame_expLen {i : Instr} {f : Buf8} {e : BitVec 4} (h : builtFrame i = some (f, e)) :
    e = 7#4 ∨ e = 8#4 := by
  cases i <;> simp_all [builtFrame]

/-- All that an instruction can do to a state: one case per element or group of elements that it can write, and the bus
error of an ill-formed one (R82, R103). -/
inductive ExecEffect (s : State) : Instr → State → Prop
  | read {i : Instr} (hi : isReadInstr i = true) (v : Word) : ExecEffect s i (s.respond v)
  | control (en : Bool) : ExecEffect s (.ctrlWr en) (s.setChkEn en).acknowledge
  | crcInit : ExecEffect s .crcInit (s.setAcc Config.crcInitial).acknowledge
  | crcByte (b : Byte) : ExecEffect s (.crcByte b) (s.setAcc (crc16Step s.acc b)).acknowledge
  | build {i : Instr} {f : Buf8} {e : BitVec 4} (hi : builtFrame i = some (f, e)) (hw : i.wellFormed = true) :
      ExecEffect s i (s.build f e).acknowledge
  | expLen {d : Word} (hd : lengthLegal d = true) :
      ExecEffect s (.explenWr d) (s.setExpLen (lengthOperand d)).acknowledge
  | rxClear : ExecEffect s .rxClear ((s.setRx Buf8.zero 0#4).setRxOvf false).acknowledge
  | rxPush (b : Byte) : ExecEffect s (.rxPush b) (pushByte s b).acknowledge
  | parseMeas : ExecEffect s .parseMeas (parseFrame s .measurement).acknowledge
  | parseAck : ExecEffect s .parseAck (parseFrame s .acknowledgment).acknowledge
  | errClear : ExecEffect s .errClear (s.setErrInfo none 0#8 false).acknowledge
  | illFormed {i : Instr} (hi : i.wellFormed = false) (addr : Byte) :
      ExecEffect s i (s.raiseBusError .invalidParameter addr true)

/-- BUILD.SETCAL places its frame or, out of range, errs (41_frame_builder.md R82). -/
theorem execBuildSetcal_effect {d : Word} {s t : State} (h : execBuildSetcal d s = .next t) :
    ExecEffect s (.buildSetcal d) t := by
  unfold execBuildSetcal at h
  split at h
  next hd => cases h; exact .build rfl hd
  next hd => cases h; exact .illFormed (i := .buildSetcal d) (Bool.eq_false_iff.mpr hd) _

/-- EXPLEN.WR writes EXP_LEN or, out of range, errs (43_parser.md R103). -/
theorem execExplenWr_effect {d : Word} {s t : State} (h : execExplenWr d s = .next t) :
    ExecEffect s (.explenWr d) t := by
  unfold execExplenWr at h
  split at h
  next hd => cases h; exact .expLen hd
  next hd => cases h; exact .illFormed (i := .explenWr d) (Bool.eq_false_iff.mpr hd) _

/-- Every completed instruction has one of the effects of `ExecEffect`. -/
theorem exec_effect {i : Instr} {s t : State} (h : exec i s = .next t) : ExecEffect s i t := by
  cases i with
  | buildSetcal d => exact execBuildSetcal_effect h
  | explenWr d => exact execExplenWr_effect h
  | ctrlWr en => cases h; exact .control en
  | crcInit => cases h; exact .crcInit
  | crcByte b => cases h; exact .crcByte b
  | buildRead | buildDisable | buildGetcal => cases h; exact .build rfl rfl
  | rxClear => cases h; exact .rxClear
  | rxPush b => cases h; exact .rxPush b
  | parseMeas => cases h; exact .parseMeas
  | parseAck => cases h; exact .parseAck
  | errClear => cases h; exact .errClear
  | ctrlRd | crcRd | txlenRd | txdata0Rd | txdata1Rd | explenRd | rxstatRd | rxbuf0Rd | rxbuf1Rd | resultRd | valueRd
  | errRd => cases h; exact .read (by decide) _

end Sys2Proof.Machine
end

section
/-! ### Which instruction can have written what -/

namespace Sys2Proof.Machine

/-- A push touches the three receive elements only (42_receive.md R92). -/
theorem pushByte_frame (s : State) (b : Byte) :
    pushByte s b = { s with rxBuf := (pushByte s b).rxBuf, rxCount := (pushByte s b).rxCount,
                            rxOvf := (pushByte s b).rxOvf } := by
  obtain ⟨-, h⟩ | ⟨-, h⟩ := pushByte_cases s b <;> rw [h]

/-- Settles O38, by the effects an instruction can have: in each the elements outside its group are as before, and of
its own group the instruction is a named writer. -/
theorem eachElementHasItsWriters : Obligations.EachElementHasItsWriters := by
  intro i s t hw hexec
  cases exec_effect hexec with
  | read _ v => simp [State.respond, sameResult, sameErrInfo]
  | control en => simp [State.acknowledge_eq, State.setChkEn, sameResult, sameErrInfo]
  | crcInit => simp [State.acknowledge_eq, State.setAcc, sameResult, sameErrInfo]
  | crcByte b => simp [State.acknowledge_eq, State.setAcc, sameResult, sameErrInfo]
  | build hi _ =>
    obtain rfl | rfl | rfl | ⟨d, rfl⟩ := eq_build_of_builtFrame hi <;>
      simp [State.acknowledge_eq, State.build_eq, sameResult, sameErrInfo]
  | expLen _ => simp [State.acknowledge_eq, State.setExpLen, sameResult, sameErrInfo]
  | rxClear => simp [State.acknowledge_eq, State.setRx, State.setRxOvf, sameResult, sameErrInfo]
  | rxPush b => rw [pushByte_frame]; simp [State.acknowledge_eq, sameResult, sameErrInfo]
  | parseMeas => simp [State.acknowledge_eq, parseFrame_eq, sameErrInfo]
  | parseAck => simp [State.acknowledge_eq, parseFrame_eq, sameErrInfo]
  | errClear => simp [State.acknowledge_eq, State.setErrInfo, sameResult]
  | illFormed hi => exact absurd hw (Bool.eq_false_iff.mp hi)

end Sys2Proof.Machine
end

section
/-! ### The invariants of R18, one rule per operation -/

namespace Sys2Proof.Machine

/-- R18 (g): no verdict has a code above 4. -/
theorem ResultCode.code_le (c : ResultCode) : c.code.toNat ≤ 4 := by cases c <;> decide

/-- R18 (h): no cause has a code above 5. -/
theorem errCauseCode_le (c : Option BusCause) : (errCauseCode c).toNat ≤ 5 := by
  rcases c with _ | c
  · decide
  · cases c <;> decide

/-- Cause 0 is kept for "no error recorded" (10_state.md R38). -/
theorem busCauseCode_ne_zero (c : BusCause) : busCauseCode c ≠ 0#3 := by cases c <;> decide

/-- The range check of EXP_LEN is on the whole word, so the four bits that are kept hold at most 8 (43_parser.md
R103). -/
theorem lengthOperand_le {d : Word} (h : lengthLegal d = true) : (lengthOperand d).toNat ≤ 8 := by
  have hd : d.toNat ≤ 8 := by simpa [lengthLegal, Config.expLenMax, BitVec.le_def] using h
  simp only [lengthOperand, BitVec.extractLsb'_toNat, Nat.shiftRight_zero]
  omega

namespace State.Inv

variable {s : State} (h : s.Inv)
include h

theorem setResponse (r : Option Response) : (s.setResponse r).Inv := { h with }

theorem setPending (p : List BusEvent) : (s.setPending p).Inv := { h with }

theorem setChkEn (v : Bool) : (s.setChkEn v).Inv := { h with }

theorem setAcc (v : Half) : (s.setAcc v).Inv := { h with }

theorem setExpLen {v : BitVec 4} (hv : v.toNat ≤ 8) : (s.setExpLen v).Inv := { h with expLen_le := hv }

theorem build {f : Buf8} {e : BitVec 4} (he : e.toNat ≤ 8) : (s.build f e).Inv :=
  { h with
    txLen_zero_or_full := .inr rfl
    txBuf_zero_before_build := fun h0 => absurd h0 (by decide : ¬ 8#4 = 0#4)
    expLen_le := he }

/-- An emptied receive buffer is zero at every index (42_receive.md R91). -/
theorem rxClear : ((s.setRx Buf8.zero 0#4).setRxOvf false).Inv :=
  { h with
    rxCount_le := Nat.zero_le 8
    overflow_full := fun h0 => absurd h0 Bool.false_ne_true
    rxBuf_zero_beyond := fun i _ _ => Buf8.get_zero i }

/-- A push with room fills the byte at RX_COUNT, which leaves those beyond it zero; a push without room finds RX_COUNT
at 8, where OVF may be set (42_receive.md R92). -/
theorem pushByte (b : Byte) : (pushByte s b).Inv := by
  obtain ⟨hroom, heq⟩ | ⟨hfull, heq⟩ := pushByte_cases s b
  · have hcount : (s.rxCount + 1#4).toNat = s.rxCount.toNat + 1 := by
      rw [BitVec.toNat_add, BitVec.toNat_one (by decide)]
      omega
    rw [heq]
    exact
      { h with
        rxCount_le := by simp only [hcount]; omega
        overflow_full := fun hovf => by
          have hc := h.overflow_full hovf
          simp [hc] at hroom
        rxBuf_zero_beyond := fun i hi hi8 => by
          simp only [hcount] at hi
          rw [Buf8.get_set_other _ _ (by omega : s.rxCount.toNat ≠ i)]
          exact h.rxBuf_zero_beyond i (by omega) hi8 }
  · have hcount : s.rxCount.toNat = 8 := Nat.le_antisymm h.rxCount_le hfull
    rw [heq]
    exact { h with overflow_full := fun _ => BitVec.eq_of_toNat_eq hcount }

theorem parseFrame (m : ParseMode) : (parseFrame s m).Inv := { h with resCode_le := ResultCode.code_le _ }

theorem clearErrInfo : (s.setErrInfo none 0#8 false).Inv :=
  { h with
    errCause_le := errCauseCode_le _
    no_error_no_record := fun _ => ⟨rfl, rfl⟩ }

/-- A bus error records a cause, whose code is not 0, so its offset and direction are free (60_exceptions.md R126). -/
theorem raiseBusError (c : BusCause) (a : Byte) (w : Bool) : (s.raiseBusError c a w).Inv :=
  { h with
    errCause_le := errCauseCode_le _
    no_error_no_record := fun h0 => absurd h0 (busCauseCode_ne_zero c) }

/-- Every effect of an instruction keeps the invariants. -/
theorem execEffect {i : Instr} {t : State} (he : ExecEffect s i t) : t.Inv := by
  cases he with
  | read _ v => exact h.setResponse _
  | control en => exact (h.setChkEn en).setResponse _
  | crcInit => exact (h.setAcc _).setResponse _
  | crcByte b => exact (h.setAcc _).setResponse _
  | build hi _ =>
    have hle := builtFrame_expLen hi
    exact (h.build (by rcases hle with rfl | rfl <;> decide)).setResponse _
  | expLen hd => exact (h.setExpLen (lengthOperand_le hd)).setResponse _
  | rxClear => exact h.rxClear.setResponse _
  | rxPush b => exact (h.pushByte b).setResponse _
  | parseMeas => exact (h.parseFrame _).setResponse _
  | parseAck => exact (h.parseFrame _).setResponse _
  | errClear => exact h.clearErrInfo.setResponse _
  | illFormed _ a => exact h.raiseBusError _ a true

end State.Inv

/-- Settles O43: the invariants hold at reset. -/
theorem resetIsWellFormed : Obligations.ResetIsWellFormed where
  txLen_zero_or_full := .inl rfl
  txBuf_zero_before_build := fun _ => rfl
  expLen_le := Nat.zero_le 8
  rxCount_le := Nat.zero_le 8
  overflow_full := fun h => absurd h Bool.false_ne_true
  rxBuf_zero_beyond := fun i _ _ => Buf8.get_zero i
  resCode_le := ResultCode.code_le _
  errCause_le := errCauseCode_le _
  no_error_no_record := fun _ => ⟨rfl, rfl⟩

/-- Settles O42, by the four kinds of step: idle, reset, an instruction, a bus error. -/
theorem stepKeepsWellFormedness : Obligations.StepKeepsWellFormedness := by
  intro s t h hstep
  obtain ⟨-, hs⟩ | ⟨rest, -, hs⟩ | ⟨w, rest, i, -, -, hs⟩ | ⟨w, rest, c, -, -, hs⟩ := step_cases s <;>
    rw [hs] at hstep
  · cases hstep; exact h.setResponse none
  · cases hstep; exact resetIsWellFormed.setPending rest
  · exact (h.setPending rest).execEffect (exec_effect hstep)
  · cases hstep; exact (h.setPending rest).raiseBusError c _ _

/-- What every step of a machine keeps, every run of it keeps. -/
theorem run_keeps (M : Host.Core) {P : M.State → Prop} (hstep : ∀ s t, P s → M.step s = .next t → P t) {n : Nat}
    {s t : M.State} (hs : P s) (hrun : M.run n s = .next t) : P t := by
  induction n generalizing s with
  | zero => cases hrun; exact hs
  | succ n ih =>
    rw [Host.Core.run] at hrun
    cases h1 : M.step s with
    | next s1 => rw [h1] at hrun; exact ih (hstep s s1 hs h1) hrun
    | fault r => rw [h1] at hrun; cases hrun
    | refused r => rw [h1] at hrun; cases hrun

/-- Settles O44, from the reset state (O43) along the run (O42). -/
theorem reachableStatesAreWellFormed : Obligations.ReachableStatesAreWellFormed := by
  intro events n t hrun
  exact run_keeps core (P := State.Inv) stepKeepsWellFormedness (resetIsWellFormed.setPending events) hrun

end Sys2Proof.Machine
end

section
/-! ### The reset state, the placed word, and the reads of RESULT and VALUE -/

namespace Sys2Proof.Machine

/-- Settles O4: each element of the reset state, read off its definition. -/
theorem resetValuesOfEveryElement : Obligations.ResetValuesOfEveryElement :=
  ⟨rfl, rfl, fun i _ => Buf8.get_zero i, rfl, rfl, fun i _ => Buf8.get_zero i, rfl, rfl, rfl, rfl, rfl, rfl, rfl, rfl,
    rfl, rfl, rfl⟩

/-- No frame is built at reset (10_state.md R43). -/
theorem reset_builtFrameChecked : State.reset.BuiltFrameChecked := fun hbuilt => absurd rfl hbuilt

/-- At reset RES_CODE is NONE, every flag is clear and VALUE is 0 (10_state.md R43). -/
theorem reset_resultConsistent : State.reset.ResultConsistent where
  none_clear _ := ⟨rfl, rfl, rfl, rfl⟩
  noResponse_clear h := by cases h
  ok_length h := by cases h
  badCrc_flags h := by cases h
  badLength_reason h := by cases h
  value_only_ok h := absurd rfl h

/-- Settles O47. -/
theorem resetIsCheckedAndConsistent : Obligations.ResetIsCheckedAndConsistent :=
  ⟨reset_builtFrameChecked, reset_resultConsistent⟩

/-- Settles O7: the placed word is the event the step takes, and taking it gives the state back. -/
theorem placedWordRunsAtOnce : Obligations.PlacedWordRunsAtOnce := by
  intro s nbits w i h
  have hdecode := (decodeTableWord_eq_some_iff nbits w i).mp h
  have hpending : (s.withFetchWord nbits w).pending = .transaction (tableBusWord nbits w) :: s.pending := rfl
  exact step_of_decode_ok hpending hdecode

/-- RESULT bits 2:0 are the code (10_state.md R36). -/
theorem resultWord_code (s : State) : (resultWord s).extractLsb' 0 3 = s.resCode.code := by
  apply BitVec.eq_of_getLsbD_eq
  intro j hj
  simp only [resultWord, BitVec.getLsbD_extractLsb', BitVec.getLsbD_setWidth, BitVec.getLsbD_append, Nat.zero_add]
  simp [hj, Nat.lt_trans hj (by decide : 3 < 32)]

/-- RESULT bits 6:3 are the four flags (10_state.md R36). -/
theorem resultWord_flags (s : State) :
    (resultWord s).getLsbD 3 = s.resLenOk ∧ (resultWord s).getLsbD 4 = s.resCrcOk ∧
      (resultWord s).getLsbD 5 = s.resEchoEq ∧ (resultWord s).getLsbD 6 = parseModeBit s.resMode := by
  simp only [resultWord, BitVec.getLsbD_setWidth, BitVec.getLsbD_append, BitVec.getLsbD_ofBool]
  simp

/-- RESULT bits 31:7 read 0 (10_state.md R36). -/
theorem resultWord_high (s : State) : (resultWord s).extractLsb' 7 25 = 0#25 := by
  apply BitVec.eq_of_getLsbD_eq
  intro j hj
  simp [resultWord]

theorem parseModeBit_iff (m : ParseMode) : parseModeBit m = true ↔ m = .acknowledgment := by
  cases m <;> simp [parseModeBit]

/-- Settles O35: RESULT and VALUE are read-only registers, RESULT's word is given field by field, VALUE is
zero-extended. -/
theorem resultAndValueReadBack : Obligations.ResultAndValueReadBack := by
  refine ⟨fun d => ?reads, fun s => ?result, fun s => ?value, fun d => ?writes⟩
  case reads => exact ⟨decode_transaction_offset false .result d, decode_transaction_offset false .value d⟩
  case result =>
    obtain ⟨hlen, hcrc, hecho, hmode⟩ := resultWord_flags s
    refine ⟨resultWord s, rfl, ?_, hlen, hcrc, hecho, hmode ▸ parseModeBit_iff s.resMode, resultWord_high s⟩
    rw [resultWord_code]
    cases s.resCode <;> rfl
  case value =>
    rw [BitVec.ofNat_toNat]
    rfl
  case writes => exact ⟨decode_write_ro (r := .result) d rfl, decode_write_ro (r := .value) d rfl⟩

end Sys2Proof.Machine
end

/-! ## Proofs of the family of 20_memory.md: transactions one at a time, what repeating one does -/

section
/-! ### The canonical word of an instruction decodes to it -/

namespace Sys2Proof

/-- A read at a register's own offset asks the direction only (30_encoding.md R57). -/
theorem decode_memRead_offset (r : RegName) : decode (memRead r.offset) = decodeRead r :=
  decode_transaction_offset false r 0#32

/-- A write at a register's own offset asks the direction, then the data (30_encoding.md R57). -/
theorem decode_memWrite_offset (r : RegName) (d : Word) : decode (memWrite r.offset d) = decodeWrite r d :=
  decode_transaction_offset true r d

@[simp] theorem bitOperand_bitData (b : Bool) : Machine.bitOperand (bitData b) = b := by cases b <;> rfl

@[simp] theorem byteOperand_setWidth (b : Byte) : Machine.byteOperand (b.setWidth 32) = b := by
  apply BitVec.eq_of_getLsbD_eq
  intro j hj
  simp [Machine.byteOperand, hj, Nat.lt_trans hj (by decide : 8 < 32)]

/-- The decoder undoes the encoder on well-formed instructions (30_encoding.md R55 to R58): every word of the encoder is
a read or a write at a register's own offset, its data hold the operand, and well-formed data pass the range check. -/
theorem decode_encode {i : Instr} (hw : i.wellFormed = true) : decode (encode i) = .ok i := by
  cases i with
  | ctrlRd => exact decode_memRead_offset .ctrl
  | crcRd => exact decode_memRead_offset .crcValue
  | txlenRd => exact decode_memRead_offset .txLen
  | txdata0Rd => exact decode_memRead_offset .txData0
  | txdata1Rd => exact decode_memRead_offset .txData1
  | explenRd => exact decode_memRead_offset .expLen
  | rxstatRd => exact decode_memRead_offset .rxStatus
  | rxbuf0Rd => exact decode_memRead_offset .rxBuf0
  | rxbuf1Rd => exact decode_memRead_offset .rxBuf1
  | resultRd => exact decode_memRead_offset .result
  | valueRd => exact decode_memRead_offset .value
  | errRd => exact decode_memRead_offset .errInfo
  | ctrlWr en => exact (decode_memWrite_offset .ctrl _).trans (by simp [decodeWrite])
  | crcInit => exact decode_memWrite_offset .crcInit _
  | crcByte b => exact (decode_memWrite_offset .crcData _).trans (by simp [decodeWrite])
  | buildRead | buildDisable | buildGetcal => exact decode_memWrite_offset .txBuild _
  | buildSetcal d => exact (decode_memWrite_offset .txSetcal d).trans (if_pos hw)
  | explenWr d => exact (decode_memWrite_offset .expLen d).trans (if_pos hw)
  | rxClear => exact decode_memWrite_offset .rxClear _
  | rxPush b => exact (decode_memWrite_offset .rxData _).trans (by simp [decodeWrite])
  | parseMeas | parseAck => exact decode_memWrite_offset .parse _
  | errClear => exact decode_memWrite_offset .errInfo _

end Sys2Proof
end

section
/-! ### Every instruction completes, and none sees the bus fields -/

namespace Sys2Proof.Machine

/-- The range check of BUILD.SETCAL is on the data alone: it builds in every state or errs in every state
(41_frame_builder.md R82). -/
theorem exec_buildSetcal_cases (d : Word) :
    (∀ s, exec (.buildSetcal d) s = .next (s.build (setcalFrame (periodOperand d)) 8#4).acknowledge) ∨
      ∀ s, exec (.buildSetcal d) s = .next (s.raiseBusError .invalidParameter RegName.txSetcal.offset true) := by
  by_cases hd : periodLegal d = true
  · exact .inl fun _ => if_pos hd
  · exact .inr fun _ => if_neg hd

/-- The range check of EXPLEN.WR is on the data alone: it writes in every state or errs in every state (43_parser.md
R103). -/
theorem exec_explenWr_cases (d : Word) :
    (∀ s, exec (.explenWr d) s = .next (s.setExpLen (lengthOperand d)).acknowledge) ∨
      ∀ s, exec (.explenWr d) s = .next (s.raiseBusError .invalidParameter RegName.expLen.offset true) := by
  by_cases hd : lengthLegal d = true
  · exact .inl fun _ => if_pos hd
  · exact .inr fun _ => if_neg hd

/-- Every instruction ends in a next state (60_exceptions.md R131). -/
theorem exec_completes (i : Instr) (s : State) : ∃ t, exec i s = .next t := by
  cases i with
  | buildSetcal d => obtain he | he := exec_buildSetcal_cases d <;> exact ⟨_, he s⟩
  | explenWr d => obtain he | he := exec_explenWr_cases d <;> exact ⟨_, he s⟩
  | _ => exact ⟨_, rfl⟩

/-- A push neither reads nor changes the bus fields. -/
theorem pushByte_bus (s : State) (p : List BusEvent) (r : Option Response) (b : Byte) :
    pushByte ((s.setPending p).setResponse r) b = ((pushByte s b).setPending p).setResponse r := by
  by_cases hroom : s.rxCount < Config.rxCapacity <;> simp [pushByte, hroom] <;> rfl

/-- No instruction reads the bus fields: with another list of coming events and another last response it does the same,
and leaves that list alone (10_state.md R16, 20_memory.md R47; log entries 1 and 3). -/
theorem exec_bus {i : Instr} {s t : State} (p : List BusEvent) (r : Option Response) (h : exec i s = .next t) :
    exec i ((s.setPending p).setResponse r) = .next (t.setPending p) := by
  cases i with
  | buildSetcal d => obtain he | he := exec_buildSetcal_cases d <;> rw [he] at h ⊢ <;> cases h <;> rfl
  | explenWr d => obtain he | he := exec_explenWr_cases d <;> rw [he] at h ⊢ <;> cases h <;> rfl
  | rxPush b =>
    cases h
    simp only [exec, execRxPush, pushByte_bus]
    rfl
  | _ => cases h; rfl

/-- The list of coming events stands after an instruction as it stood before (20_memory.md R47; log entry 1). -/
theorem setPending_of_exec {i : Instr} {s t : State} (h : exec i s = .next t) : t.setPending s.pending = t := by
  have hsame : exec i s = .next (t.setPending s.pending) := exec_bus s.pending s.response h
  rw [h] at hsame
  injection hsame with ht
  exact ht.symm

theorem exec_pending {i : Instr} {s t : State} (h : exec i s = .next t) : t.pending = s.pending :=
  (congrArg State.pending (setPending_of_exec h)).symm

/-- What an instruction does does not depend on the host's coming events (20_memory.md R47). -/
theorem exec_setPending {i : Instr} {s t : State} (p : List BusEvent) (h : exec i s = .next t) :
    exec i (s.setPending p) = .next (t.setPending p) :=
  exec_bus p s.response h

/-- An instruction overwrites the last response and does not read it (20_memory.md R45). -/
theorem exec_setResponse {i : Instr} {s t : State} (r : Option Response) (h : exec i s = .next t) :
    exec i (s.setResponse r) = .next t :=
  (exec_bus s.pending r h).trans (congrArg _ (setPending_of_exec h))

end Sys2Proof.Machine
end

section
/-! ### Transactions one at a time, in issue order -/

namespace Sys2Proof.Machine

/-- Settles O1. -/
theorem stepRunsDecodedInstruction : Obligations.StepRunsDecodedInstruction :=
  fun _ _ _ _ hpending hdecode => step_of_decode_ok hpending hdecode

/-- Settles O8, by induction on the instructions: each step decodes the first word back to its instruction, which runs
and leaves the words after it pending. -/
theorem issuedInstructionsRunInOrder : Obligations.IssuedInstructionsRunInOrder := by
  intro is
  induction is with
  | nil =>
    intro s rest _ hpending
    obtain rfl : s.pending = rest := hpending
    rfl
  | cons i is ih =>
    intro s rest hwf hpending
    obtain ⟨hi, his⟩ := List.forall_mem_cons.mp hwf
    obtain ⟨t, hexec⟩ := exec_completes i (s.setPending (issueAll is ++ rest))
    have hstep : step s = .next t := (step_of_decode_ok hpending (decode_encode hi)).trans hexec
    have hfirst : exec i (s.setPending rest) = .next (t.setPending rest) :=
      exec_setPending (s := s.setPending (issueAll is ++ rest)) rest hexec
    have hrest : Host.Core.run core is.length t = execAll is (t.setPending rest) := ih t rest his (exec_pending hexec)
    exact (core_run_succ is.length s t hstep).trans (hrest.trans (execAll_cons i is _ _ hfirst).symm)

end Sys2Proof.Machine
end

section
/-! ### Reads, repeated writes, and what an error changes -/

namespace Sys2Proof.Machine

/-- A read only responds (20_memory.md R49 (a)). -/
theorem exec_of_isReadInstr {i : Instr} (hi : isReadInstr i = true) (s : State) :
    ∃ v, exec i s = .next (s.respond v) := by
  cases i with
  | ctrlRd | crcRd | txlenRd | txdata0Rd | txdata1Rd | explenRd | rxstatRd | rxbuf0Rd | rxbuf1Rd | resultRd | valueRd
  | errRd => exact ⟨_, rfl⟩
  | ctrlWr _ | crcInit | crcByte _ | buildRead | buildDisable | buildGetcal | buildSetcal _ | explenWr _ | rxClear
  | rxPush _ | parseMeas | parseAck | errClear => simp [isReadInstr, encode] at hi

/-- Every operation but CRC.BYTE and RX.PUSH, repeated, leaves the state it left (20_memory.md R49 (b)): what it writes
does not depend on what it has written. -/
theorem exec_idempotent {i : Instr} {s t : State} (hcrc : ∀ b, i ≠ .crcByte b) (hpush : ∀ b, i ≠ .rxPush b)
    (h : exec i s = .next t) : exec i t = .next t := by
  cases i with
  | crcByte b => exact absurd rfl (hcrc b)
  | rxPush b => exact absurd rfl (hpush b)
  | buildSetcal d => obtain he | he := exec_buildSetcal_cases d <;> rw [he] at h ⊢ <;> cases h <;> rfl
  | explenWr d => obtain he | he := exec_explenWr_cases d <;> rw [he] at h ⊢ <;> cases h <;> rfl
  | _ => cases h; rfl

theorem crc16Step_0100 : crc16Step 0x0100#16 0#8 = 0x0001#16 := by
  simp [crc16Step, crcShifts_succ, crcShift]

theorem crc16Step_0001 : crc16Step 0x0001#16 0#8 = 0xC0C1#16 := by
  simp [crc16Step, crcShifts_succ, crcShift, Config.crcPolynomial]

/-- Where a CRC.BYTE leaves the state as it was, ACC is a fixed point of the checksum step. -/
theorem crc16Step_eq_of_exec_crcByte {b : Byte} {s : State} (h : exec (.crcByte b) s = .next s) :
    crc16Step s.acc b = s.acc := by
  injection h with h
  exact congrArg State.acc h

/-- CRC.BYTE folds its byte in again: a zero byte takes ACC from 0x0100 to 0x0001, and from there to 0xC0C1. -/
theorem crcByte_not_idempotent : ∃ b s t, exec (.crcByte b) s = .next t ∧ exec (.crcByte b) t ≠ .next t := by
  refine ⟨0#8, State.reset.setAcc 0x0100#16, (State.reset.setAcc 0x0001#16).acknowledge, ?_, fun hsame => ?_⟩
  · simp only [exec, execCrcByte, State.setAcc_acc, crc16Step_0100]
    rfl
  · have hfixed := crc16Step_eq_of_exec_crcByte hsame
    simp [State.acknowledge_eq, crc16Step_0001] at hfixed

/-- RX.PUSH appends its byte again: from reset, RX_COUNT is 1, then 2. -/
theorem rxPush_not_idempotent : ∃ b s t, exec (.rxPush b) s = .next t ∧ exec (.rxPush b) t ≠ .next t := by
  refine ⟨0#8, State.reset, _, rfl, fun hsame => ?_⟩
  injection hsame with hsame
  exact absurd (congrArg State.rxCount hsame) (by decide)

/-- A completed instruction answers OK, or it took the bus error of its range check (20_memory.md R45). -/
theorem ExecEffect.ok_or_busError {i : Instr} {s t : State} (he : ExecEffect s i t) :
    (∃ v, t.response = some ⟨.ok, v⟩) ∨ ∃ a, t = s.raiseBusError .invalidParameter a true := by
  cases he with
  | illFormed _ a => exact .inr ⟨a, rfl⟩
  | _ => exact .inl ⟨_, rfl⟩

/-- A pending transaction that does not decode takes the bus error of its cause (60_exceptions.md R126). -/
theorem step_of_decode_error {s : State} {w : BusWord} {rest : List BusEvent} {c : BusCause}
    (hpending : s.pending = .transaction w :: rest) (hdecode : decode w = .error c) :
    step s = .next ((s.setPending rest).raiseBusError c w.addr w.we) := by
  simp [step, State.takeEvent_cons hpending, hdecode]

/-- A transaction that answers ERR did nothing but take a bus error (60_exceptions.md R126). -/
theorem step_err_eq_raiseBusError {s t : State} {w : BusWord} {rest : List BusEvent} {v : Word}
    (hpending : s.pending = .transaction w :: rest) (hstep : step s = .next t) (herr : t.response = some ⟨.err, v⟩) :
    ∃ c a d, t = (s.setPending rest).raiseBusError c a d := by
  cases hdecode : decode w with
  | ok i =>
    rw [step_of_decode_ok hpending hdecode] at hstep
    obtain ⟨u, hok⟩ | ⟨a, ht⟩ := (exec_effect hstep).ok_or_busError
    · rw [hok] at herr
      cases herr
    · exact ⟨_, a, true, ht⟩
  | error c =>
    rw [step_of_decode_error hpending hdecode] at hstep
    cases hstep
    exact ⟨c, w.addr, w.we, rfl⟩

/-- Settles O37: (a) reads respond only and do not read the last response, (b) by the lemmas above on repeated operations,
(c) an ERR answer is a bus error and nothing else. -/
theorem readsArePureAndWritesIdempotent : Obligations.ReadsArePureAndWritesIdempotent := by
  refine ⟨fun i s hi => ?reads, fun i s t hcrc hpush h => exec_idempotent hcrc hpush h, crcByte_not_idempotent,
    rxPush_not_idempotent, fun s t w rest v hpending hstep herr => ?errors⟩
  case reads =>
    obtain ⟨v, hread⟩ := exec_of_isReadInstr hi s
    exact ⟨v, hread, exec_setResponse _ hread⟩
  case errors =>
    obtain ⟨c, a, d, rfl⟩ := step_err_eq_raiseBusError hpending hstep herr
    rfl

end Sys2Proof.Machine
end

/-! ## Proofs of the family of 30_encoding.md: the decoder against encoder and opcode table, built frames, RX.FRAME -/

section
/-! ### The decoder against the encoder and the opcode table -/

namespace Sys2Proof

/-- Settles O9. -/
theorem decodeOfEncodeIsTheInstruction : Obligations.DecodeOfEncodeIsTheInstruction :=
  fun _ hw => decode_encode hw

/-- A row selects a word when the bits under its mask are its pattern (30_encoding.md R58). -/
theorem OpcodeRow.selects_iff (row : OpcodeRow) (t : BusWord) : row.selects t = true ↔ t &&& row.mask = row.pattern :=
  beq_iff_eq

/-- Rows that differ disagree on a bit both masks cover, so a word selects one at most (30_encoding.md R58). -/
theorem row_unique {p q : OpcodeRow} (hp : p ∈ opcodeTable) (hq : q ∈ opcodeTable) {t : BusWord}
    (hpt : p.selects t = true) (hqt : q.selects t = true) : p = q := by
  by_contra hne
  refine @List.Pairwise.forall _ _ _ ⟨fun _ _ => Ne.symm⟩ opcodeTable_disjoint _ hp _ hq hne ?_
  rw [← (p.selects_iff t).mp hpt, ← (q.selects_iff t).mp hqt]
  ac_rfl

/-- The row of an instruction is in the table: its operand is no part of the row (30_encoding.md R58). -/
theorem row_mem_opcodeTable (i : Instr) : i.row ∈ opcodeTable := by
  cases i <;> simp [opcodeTable, tableOrder, Instr.row]

/-- A row of a plain register selects words with its own direction and offset only (30_encoding.md R58). -/
theorem eq_transaction_of_selects_address {m : String} {p t : BusWord} {w : Bool} {a : Byte}
    (hp : transaction w a 0#32 = p) (h : (⟨m, p, addressMask⟩ : OpcodeRow).selects t = true) :
    t = transaction w a t.wdata := by
  have hbits : transaction t.we t.addr 0#32 = transaction w a 0#32 := by
    rw [← Laws.EncodesItsRow.address_bits, transaction_fields, hp]
    exact (OpcodeRow.selects_iff _ t).mp h
  have hwe : t.we = w := by simpa using congrArg BusWord.we hbits
  have haddr : t.addr = a := by simpa using congrArg BusWord.addr hbits
  conv_lhs => rw [← transaction_fields t, hwe, haddr]

/-- A row of a selector selects its pattern only (30_encoding.md R58). -/
theorem eq_of_selects_whole {m : String} {p t : BusWord}
    (h : (⟨m, p, wholeMask⟩ : OpcodeRow).selects t = true) : t = p := by
  have hmask : wholeMask = BitVec.allOnes 41 := by decide
  have hbits : t &&& wholeMask = p := (OpcodeRow.selects_iff _ t).mp h
  rwa [hmask, BitVec.and_allOnes] at hbits

/-! A word that decodes selects its instruction's row. -/

/-- What the decoder makes of a read of a register has its row selected by the word, whatever the data (30_encoding.md
R57, R58). -/
theorem selects_of_decodeRead {r : RegName} {i : Instr} (d : Word) (h : decodeRead r = .ok i) :
    i.wellFormed = true ∧ i.row.selects (transaction false r.offset d) = true := by
  cases r with
  | ctrl | crcValue | txLen | txData0 | txData1 | expLen | rxStatus | rxBuf0 | rxBuf1 | result | value | errInfo =>
    cases h
    exact ⟨rfl, Laws.EncodesItsRow.selects_address d rfl⟩
  | crcInit | crcData | txBuild | txSetcal | rxClear | rxData | parse => cases h

theorem selects_of_decodeTxBuild {d : Word} {i : Instr} (h : decodeTxBuild d = .ok i) :
    i.wellFormed = true ∧ i.row.selects (transaction true RegName.txBuild.offset d) = true := by
  unfold decodeTxBuild at h
  split_ifs at h with h0 h1 h2 <;> cases h <;> subst d
  · exact ⟨rfl, Laws.EncodesItsRow.buildRead rfl⟩
  · exact ⟨rfl, Laws.EncodesItsRow.buildDisable rfl⟩
  · exact ⟨rfl, Laws.EncodesItsRow.buildGetcal rfl⟩

theorem selects_of_decodeParse {d : Word} {i : Instr} (h : decodeParse d = .ok i) :
    i.wellFormed = true ∧ i.row.selects (transaction true RegName.parse.offset d) = true := by
  unfold decodeParse at h
  split_ifs at h with h0 h1 <;> cases h <;> subst d
  · exact ⟨rfl, Laws.EncodesItsRow.parseMeas rfl⟩
  · exact ⟨rfl, Laws.EncodesItsRow.parseAck rfl⟩

/-- The range check of the decoder is the one of well-formedness (30_encoding.md R56, R57). -/
theorem selects_of_decodeTxSetcal {d : Word} {i : Instr} (h : decodeTxSetcal d = .ok i) :
    i.wellFormed = true ∧ i.row.selects (transaction true RegName.txSetcal.offset d) = true := by
  unfold decodeTxSetcal at h
  split_ifs at h with hd
  cases h
  exact ⟨hd, Laws.EncodesItsRow.selects_address d rfl⟩

theorem selects_of_decodeExpLen {d : Word} {i : Instr} (h : decodeExpLen d = .ok i) :
    i.wellFormed = true ∧ i.row.selects (transaction true RegName.expLen.offset d) = true := by
  unfold decodeExpLen at h
  split_ifs at h with hd
  cases h
  exact ⟨hd, Laws.EncodesItsRow.selects_address d rfl⟩

/-- What the decoder makes of a write to a register is well-formed and has its row selected by the word
(30_encoding.md R57, R58). -/
theorem selects_of_decodeWrite {r : RegName} {d : Word} {i : Instr} (h : decodeWrite r d = .ok i) :
    i.wellFormed = true ∧ i.row.selects (transaction true r.offset d) = true := by
  cases r with
  | ctrl | crcInit | crcData | rxClear | rxData | errInfo =>
    cases h
    exact ⟨rfl, Laws.EncodesItsRow.selects_address d rfl⟩
  | txBuild => exact selects_of_decodeTxBuild h
  | parse => exact selects_of_decodeParse h
  | txSetcal => exact selects_of_decodeTxSetcal h
  | expLen => exact selects_of_decodeExpLen h
  | crcValue | txLen | txData0 | txData1 | rxStatus | rxBuf0 | rxBuf1 | result | value => cases h

/-- A register is mapped at its own offset only. -/
theorem offset_of_registerAt {a : Byte} {r : RegName} (h : registerAt a = some r) : r.offset = a := by
  simpa using List.find?_some h

/-- A word decodes to an instruction only at a register's offset, by the direction's decoder (30_encoding.md R57). -/
theorem decode_ok_cases {t : BusWord} {i : Instr} (h : decode t = .ok i) :
    ∃ r : RegName, (decodeRead r = .ok i ∧ t = transaction false r.offset t.wdata) ∨
      (decodeWrite r t.wdata = .ok i ∧ t = transaction true r.offset t.wdata) := by
  unfold decode decodeFields at h
  split at h
  next => cases h
  next =>
    split at h
    next => cases h
    next r hr =>
      refine ⟨r, ?_⟩
      have hfields := transaction_fields t
      rw [← offset_of_registerAt hr] at hfields
      cases hwe : t.we <;> rw [hwe] at h hfields
      · exact .inl ⟨h, hfields.symm⟩
      · exact .inr ⟨h, hfields.symm⟩

theorem selects_of_decode {t : BusWord} {i : Instr} (h : decode t = .ok i) :
    i.wellFormed = true ∧ i.row.selects t = true := by
  obtain ⟨r, ⟨hread, ht⟩ | ⟨hwrite, ht⟩⟩ := decode_ok_cases h <;> rw [ht]
  · exact selects_of_decodeRead _ hread
  · exact selects_of_decodeWrite hwrite

/-! A word that selects a row decodes, or fails a range check. -/

/-- A word selected by the row of a plain register goes to that register's decoder (30_encoding.md R57, R58). -/
theorem decode_of_selects_address {m : String} {p t : BusWord} (w : Bool) (r : RegName)
    (hp : transaction w r.offset 0#32 = p) (h : (⟨m, p, addressMask⟩ : OpcodeRow).selects t = true) :
    decode t = if w then decodeWrite r t.wdata else decodeRead r := by
  conv_lhs => rw [eq_transaction_of_selects_address hp h]
  exact decode_transaction_offset w r t.wdata

/-- The row of a selector selects the canonical word of its instruction only (30_encoding.md R58). -/
theorem decode_of_selects_whole {m : String} {i : Instr} {t : BusWord} (hw : i.wellFormed = true)
    (h : (⟨m, encode i, wholeMask⟩ : OpcodeRow).selects t = true) : decode t = .ok i :=
  (congrArg decode (eq_of_selects_whole h)).trans (decode_encode hw)

/-- The one exception of R58: the range check of R57 on a word that selects a row. -/
def RangeError (row : OpcodeRow) (t : BusWord) : Prop :=
  decode t = .error .invalidParameter ∧
    ((row.mnemonic = "BUILD.SETCAL" ∧ 0xFFFF < t.wdata.toNat) ∨ (row.mnemonic = "EXPLEN.WR" ∧ 8 < t.wdata.toNat))

theorem decodes_or_rangeError_of_buildSetcal {d : Word} {t : BusWord}
    (h : (Instr.buildSetcal d).row.selects t = true) :
    (∃ j, decode t = .ok j) ∨ RangeError (Instr.buildSetcal d).row t := by
  have hdecode : decode t = decodeTxSetcal t.wdata := decode_of_selects_address true .txSetcal rfl h
  by_cases hd : Machine.periodLegal t.wdata = true
  · exact .inl ⟨_, hdecode.trans (if_pos hd)⟩
  · exact .inr ⟨hdecode.trans (if_neg hd), .inl ⟨rfl,
      by simpa [Machine.periodLegal, Config.periodMax, BitVec.le_def] using hd⟩⟩

theorem decodes_or_rangeError_of_explenWr {d : Word} {t : BusWord} (h : (Instr.explenWr d).row.selects t = true) :
    (∃ j, decode t = .ok j) ∨ RangeError (Instr.explenWr d).row t := by
  have hdecode : decode t = decodeExpLen t.wdata := decode_of_selects_address true .expLen rfl h
  by_cases hd : Machine.lengthLegal t.wdata = true
  · exact .inl ⟨_, hdecode.trans (if_pos hd)⟩
  · exact .inr ⟨hdecode.trans (if_neg hd), .inr ⟨rfl,
      by simpa [Machine.lengthLegal, Config.expLenMax, BitVec.le_def] using hd⟩⟩

/-- A word that selects an instruction's row decodes, the range check apart: a plain register's row fixes direction and
offset, a selector's row the whole word (30_encoding.md R57, R58). -/
theorem decodes_or_rangeError_of_selects (i : Instr) {t : BusWord} (h : i.row.selects t = true) :
    (∃ j, decode t = .ok j) ∨ RangeError i.row t := by
  cases i with
  | ctrlRd => exact .inl ⟨_, decode_of_selects_address false .ctrl rfl h⟩
  | crcRd => exact .inl ⟨_, decode_of_selects_address false .crcValue rfl h⟩
  | txlenRd => exact .inl ⟨_, decode_of_selects_address false .txLen rfl h⟩
  | txdata0Rd => exact .inl ⟨_, decode_of_selects_address false .txData0 rfl h⟩
  | txdata1Rd => exact .inl ⟨_, decode_of_selects_address false .txData1 rfl h⟩
  | explenRd => exact .inl ⟨_, decode_of_selects_address false .expLen rfl h⟩
  | rxstatRd => exact .inl ⟨_, decode_of_selects_address false .rxStatus rfl h⟩
  | rxbuf0Rd => exact .inl ⟨_, decode_of_selects_address false .rxBuf0 rfl h⟩
  | rxbuf1Rd => exact .inl ⟨_, decode_of_selects_address false .rxBuf1 rfl h⟩
  | resultRd => exact .inl ⟨_, decode_of_selects_address false .result rfl h⟩
  | valueRd => exact .inl ⟨_, decode_of_selects_address false .value rfl h⟩
  | errRd => exact .inl ⟨_, decode_of_selects_address false .errInfo rfl h⟩
  | ctrlWr _ => exact .inl ⟨_, decode_of_selects_address true .ctrl rfl h⟩
  | crcInit => exact .inl ⟨_, decode_of_selects_address true .crcInit rfl h⟩
  | crcByte _ => exact .inl ⟨_, decode_of_selects_address true .crcData rfl h⟩
  | rxClear => exact .inl ⟨_, decode_of_selects_address true .rxClear rfl h⟩
  | rxPush _ => exact .inl ⟨_, decode_of_selects_address true .rxData rfl h⟩
  | errClear => exact .inl ⟨_, decode_of_selects_address true .errInfo rfl h⟩
  | buildRead => exact .inl ⟨_, decode_of_selects_whole (i := .buildRead) rfl h⟩
  | buildDisable => exact .inl ⟨_, decode_of_selects_whole (i := .buildDisable) rfl h⟩
  | buildGetcal => exact .inl ⟨_, decode_of_selects_whole (i := .buildGetcal) rfl h⟩
  | parseMeas => exact .inl ⟨_, decode_of_selects_whole (i := .parseMeas) rfl h⟩
  | parseAck => exact .inl ⟨_, decode_of_selects_whole (i := .parseAck) rfl h⟩
  | buildSetcal _ => exact decodes_or_rangeError_of_buildSetcal h
  | explenWr _ => exact decodes_or_rangeError_of_explenWr h

/-- Settles O10: a decoded word selects its instruction's row, a selected row's word decodes or fails its range check,
and in both directions no other row is selected. -/
theorem decodeAgreesWithOpcodeTable : Obligations.DecodeAgreesWithOpcodeTable := by
  refine ⟨fun t i hdecode => ?decoded, fun t row hrow hsel => ?selected⟩
  case decoded =>
    obtain ⟨hwf, hsel⟩ := selects_of_decode hdecode
    exact ⟨hwf, hsel, fun _ hrow hrowsel => row_unique hrow (row_mem_opcodeTable i) hrowsel hsel⟩
  case selected =>
    obtain ⟨i, -, rfl⟩ := List.mem_map.mp hrow
    obtain ⟨j, hdecode⟩ | hrange := decodes_or_rangeError_of_selects i hsel
    · obtain ⟨-, hjsel⟩ := selects_of_decode hdecode
      exact .inl ⟨j, hdecode, row_unique (row_mem_opcodeTable j) hrow hjsel hsel⟩
    · exact .inr hrange

end Sys2Proof
end

section
/-! ### The built frames -/

namespace Sys2Proof.Machine

/-- The command frame of R60: address 0xFE, function code, register and payload big-endian, the checksum of these six
bytes little-endian. -/
def commandFrame (f : Byte) (reg payload : Half) : Buf8 :=
  let c := crc16 [0xFE#8, f, hiByte reg, loByte reg, hiByte payload, loByte payload]
  ⟨0xFE#8, f, hiByte reg, loByte reg, hiByte payload, loByte payload, loByte c, hiByte c⟩

/-- The two bytes of a 16-bit value carry it (00_scope.md R6, R7). -/
theorem hiByte_loByte_toNat (w : Half) : (hiByte w).toNat * 256 + (loByte w).toNat = w.toNat := by
  simp only [hiByte, loByte, BitVec.extractLsb'_toNat, Nat.shiftRight_eq_div_pow]
  have := w.isLt
  omega

/-! The three pre-baked frames are command frames: their trailers are the checksums of the six bytes before
(41_frame_builder.md R77). -/

theorem readFrame_eq : readFrame = commandFrame 0x04#8 0x0003#16 1#16 := by decide +kernel
theorem disableFrame_eq : disableFrame = commandFrame 0x06#8 0x001F#16 0#16 := by decide +kernel
theorem getcalFrame_eq : getcalFrame = commandFrame 0x03#8 0x001F#16 1#16 := by decide +kernel

/-- The set-calibration frame is the command frame of its period (41_frame_builder.md R82). -/
theorem setcalFrame_eq (p : Half) : setcalFrame p = commandFrame 0x06#8 0x001F#16 p := rfl

/-- A 16-bit period passes the range check of BUILD.SETCAL and is its operand (30_encoding.md R56). -/
theorem periodLegal_setWidth (p : Half) : periodLegal (p.setWidth 32) = true := by
  have := p.isLt
  simp only [periodLegal, Config.periodMax, BitVec.le_def, decide_eq_true_eq, BitVec.toNat_setWidth, BitVec.toNat_ofNat]
  omega

@[simp] theorem periodOperand_setWidth (p : Half) : periodOperand (p.setWidth 32) = p := by
  apply BitVec.eq_of_getLsbD_eq
  intro j hj
  simp [periodOperand, hj, Nat.lt_trans hj (by decide : 16 < 32)]

/-- A well-formed build places its frame (41_frame_builder.md R76). -/
theorem exec_of_builtFrame {i : Instr} {f : Buf8} {e : BitVec 4} (hi : builtFrame i = some (f, e))
    (hw : i.wellFormed = true) (s : State) : exec i s = .next (s.build f e).acknowledge := by
  obtain rfl | rfl | rfl | ⟨d, rfl⟩ := eq_build_of_builtFrame hi <;> cases hi
  case inr.inr.inr => exact if_pos hw
  all_goals rfl

/-- Settles O25: each of the four builds places the command frame of its function code, register and payload, and a
command frame has the format. -/
theorem builtFramesHaveCommandFormat : Obligations.BuiltFramesHaveCommandFormat := by
  intro s t i f reg payload hbuild hexec
  obtain ⟨e, hframe, hw⟩ : ∃ e, builtFrame i = some (commandFrame f reg payload, e) ∧ i.wellFormed = true := by
    obtain ⟨rfl, rfl, rfl, rfl⟩ | ⟨rfl, rfl, rfl, rfl⟩ | ⟨rfl, rfl, rfl, rfl⟩ | ⟨rfl, rfl, rfl⟩ := hbuild
    · exact ⟨7#4, by rw [builtFrame, readFrame_eq], rfl⟩
    · exact ⟨8#4, by rw [builtFrame, disableFrame_eq], rfl⟩
    · exact ⟨7#4, by rw [builtFrame, getcalFrame_eq], rfl⟩
    · exact ⟨8#4, by rw [builtFrame, periodOperand_setWidth, setcalFrame_eq], periodLegal_setWidth payload⟩
  rw [exec_of_builtFrame hframe hw] at hexec
  cases hexec
  refine ⟨rfl, rfl, rfl, hiByte_loByte_toNat reg, hiByte_loByte_toNat payload, ?_⟩
  exact (Nat.add_comm _ _).trans (hiByte_loByte_toNat _)

end Sys2Proof.Machine
end

section
/-! ### RX.FRAME -/

namespace Sys2Proof.Machine

/-- `Buf8.ofBytes` holds the first 8 bytes, and zeros beyond them (42_receive.md R92). -/
theorem Buf8.get_ofBytes (bs : List Byte) {i : Nat} (h : i < 8) : (Buf8.ofBytes bs).get i = bs.getD i 0#8 := by
  interval_cases i <;> rfl

/-- With room, the pushed byte goes behind those held. -/
theorem Buf8.set_ofBytes_length {bs : List Byte} (b : Byte) (h : bs.length < 8) :
    (Buf8.ofBytes bs).set bs.length b = Buf8.ofBytes (bs ++ [b]) := by
  refine Buf8.ext_get fun i hi => ?_
  rw [Buf8.get_ofBytes _ hi]
  obtain rfl | hne := eq_or_ne bs.length i
  · rw [Buf8.get_set_self _ _ h]
    simp
  · rw [Buf8.get_set_other _ _ hne, Buf8.get_ofBytes _ hi]
    grind

/-- Bytes beyond the eighth are dropped. -/
theorem Buf8.ofBytes_append_full {bs : List Byte} (cs : List Byte) (h : 8 ≤ bs.length) :
    Buf8.ofBytes (bs ++ cs) = Buf8.ofBytes bs := by
  refine Buf8.ext_get fun i hi => ?_
  rw [Buf8.get_ofBytes _ hi, Buf8.get_ofBytes _ hi, List.getD_append _ _ _ _ (by omega)]

/-- `s` after a frame of these bytes has been received into an emptied buffer (42_receive.md R91, R92). -/
def State.afterRx (s : State) (bs : List Byte) : State :=
  ((s.setRx (Buf8.ofBytes bs) (BitVec.ofNat 4 (min bs.length 8))).setRxOvf (decide (8 < bs.length))).acknowledge

theorem State.afterRx_eq (s : State) (bs : List Byte) : s.afterRx bs =
    { s with rxBuf := Buf8.ofBytes bs, rxCount := BitVec.ofNat 4 (min bs.length 8), rxOvf := decide (8 < bs.length),
             response := some ⟨.ok, 0#32⟩ } := rfl

theorem State.afterRx_rxCount (s : State) (bs : List Byte) : (s.afterRx bs).rxCount.toNat = min bs.length 8 := by
  have hcount : (s.afterRx bs).rxCount = BitVec.ofNat 4 (min bs.length 8) := rfl
  rw [hcount, BitVec.toNat_ofNat]
  omega

theorem exec_rxClear_afterRx (s : State) : exec .rxClear s = .next (s.afterRx []) := rfl

/-- A push adds its byte to those received: with room it is stored, without room it sets the overflow flag
(42_receive.md R92). -/
theorem exec_rxPush_afterRx (s : State) (bs : List Byte) (b : Byte) :
    exec (.rxPush b) (s.afterRx bs) = .next (s.afterRx (bs ++ [b])) := by
  have hexec : exec (.rxPush b) (s.afterRx bs) = .next (pushByte (s.afterRx bs) b).acknowledge := rfl
  have hcount := s.afterRx_rxCount bs
  have hlength : (bs ++ [b]).length = bs.length + 1 := List.length_append
  obtain ⟨hroom, hpush⟩ | ⟨hfull, hpush⟩ := pushByte_cases (s.afterRx bs) b <;> rw [hexec, hpush]
  · have hlen : bs.length < 8 := by omega
    have hnext : (s.afterRx bs).rxCount + 1#4 = BitVec.ofNat 4 (min (bs ++ [b]).length 8) := by
      apply BitVec.eq_of_toNat_eq
      rw [BitVec.toNat_add, BitVec.toNat_ofNat, BitVec.toNat_ofNat, hcount, hlength]
      omega
    have hovf : decide (8 < bs.length) = decide (8 < (bs ++ [b]).length) := by
      rw [hlength, decide_eq_decide]
      omega
    rw [hnext, hcount, Nat.min_eq_left hlen.le]
    simp only [State.afterRx_eq, Buf8.set_ofBytes_length b hlen, hovf]
    rfl
  · have hlen : 8 ≤ bs.length := by omega
    have hmin : min bs.length 8 = min (bs ++ [b]).length 8 := by omega
    have hovf : decide (8 < (bs ++ [b]).length) = true := decide_eq_true (by omega)
    simp only [State.afterRx_eq, Buf8.ofBytes_append_full [b] hlen, hmin, hovf]
    rfl

theorem execAll_rxPush_afterRx (s : State) (received bs : List Byte) :
    execAll (bs.map Instr.rxPush) (s.afterRx received) = .next (s.afterRx (received ++ bs)) := by
  induction bs generalizing received with
  | nil => simp [execAll]
  | cons b bs ih =>
    rw [List.map_cons, execAll_cons _ _ _ _ (exec_rxPush_afterRx s received b), ih, List.append_assoc,
      List.singleton_append]

/-- Settles O29: RX.CLEAR starts with no byte received, and each push adds its own. -/
theorem rxFrameHoldsThePushedBytes : Obligations.RxFrameHoldsThePushedBytes := by
  intro bs s
  have hrun : execAll (.rxClear :: bs.map Instr.rxPush) s = .next (s.afterRx bs) :=
    (execAll_cons _ _ _ _ (exec_rxClear_afterRx s)).trans (execAll_rxPush_afterRx s [] bs)
  exact ⟨s.afterRx bs, hrun, rfl, fun i hi => Buf8.get_ofBytes bs hi, s.afterRx_rxCount bs, decide_eq_true_iff⟩

end Sys2Proof.Machine
end

/-! ## Proofs of the family of 40_crc.md: the checksum in arithmetic, what it detects, the engine -/

section
/-! ### The checksum step in natural numbers, and the residue -/

namespace Sys2Proof.Machine

/-- Nothing is XORed in where bit 0 is clear (40_crc.md R67). -/
theorem crcShift_of_even {a : Half} (h : a.getLsbD 0 = false) : crcShift a = a >>> 1 := if_neg (Bool.eq_false_iff.mp h)

/-- The polynomial is XORed in where bit 0 is set (40_crc.md R67). -/
theorem crcShift_of_odd {a : Half} (h : a.getLsbD 0 = true) : crcShift a = (a >>> 1) ^^^ Config.crcPolynomial := if_pos h

/-- `crcShift` on natural numbers: halve, then XOR the polynomial in where the value was odd (40_crc.md R67). -/
def crcHalving (a : Nat) : Nat := if a % 2 = 1 then (a / 2) ^^^ 0xA001 else a / 2

/-- Bit 0, which decides whether the polynomial goes in, is the parity of the value (40_crc.md R67). -/
theorem crcShift_toNat (a : Half) : (crcShift a).toNat = crcHalving a.toNat := by
  have hparity : a.getLsbD 0 = decide (a.toNat % 2 = 1) := Nat.testBit_zero a.toNat
  have hhalf : (a >>> 1).toNat = a.toNat / 2 := by rw [BitVec.toNat_ushiftRight, Nat.shiftRight_one]
  by_cases hodd : a.toNat % 2 = 1
  · rw [crcShift_of_odd (hparity.trans (decide_eq_true hodd)), BitVec.toNat_xor, hhalf, crcHalving, if_pos hodd]
    rfl
  · rw [crcShift_of_even (hparity.trans (decide_eq_false hodd)), hhalf, crcHalving, if_neg hodd]

theorem crcShifts_toNat (n : Nat) (a : Half) : (crcShifts n a).toNat = crcHalving^[n] a.toNat := by
  induction n generalizing a with
  | zero => rfl
  | succ n ih => rw [crcShifts_succ, ih, crcShift_toNat, Function.iterate_succ_apply]

/-- Settles O13: XOR is the same on words and on numbers, and each of the 8 shifts is a halving. -/
theorem crcStepIsEightHalvings : Obligations.CrcStepIsEightHalvings := by
  intro acc b
  have hxor : (acc ^^^ b.setWidth 16).toNat = acc.toNat ^^^ b.toNat := by
    rw [BitVec.toNat_xor, BitVec.toNat_setWidth_of_le (by decide)]
  exact (crcShifts_toNat 8 _).trans (congrArg crcHalving^[8] hxor)

/-- The checksum of a concatenation goes on from the checksum of the first part (40_crc.md R70 (b)). -/
theorem crc16_append (s t : List Byte) : crc16 (s ++ t) = crc16From (crc16 s) t := crc16From_append _ s t

/-- Settles O14. -/
theorem crcOfConcatenationContinues : Obligations.CrcOfConcatenationContinues := crc16_append

/-- Shifting out zeros never brings the polynomial in. -/
theorem crcShifts_of_low_zero (n : Nat) (a : Half) (hlow : ∀ i < n, a.getLsbD i = false) :
    crcShifts n a = a >>> n := by
  induction n generalizing a with
  | zero => rfl
  | succ n ih =>
    have hshift : crcShift a = a >>> 1 := crcShift_of_even (hlow 0 n.succ_pos)
    have hrest : ∀ i < n, (a >>> 1).getLsbD i = false := fun i hi => by
      rw [BitVec.getLsbD_ushiftRight]
      exact hlow _ (by omega)
    rw [crcShifts_succ, hshift, ih _ hrest, ← BitVec.shiftRight_add, Nat.add_comm]

/-- Folding in the accumulator's own low byte cancels it, so the high byte moves down (40_crc.md R69, R70 (c)). -/
theorem crc16Step_loByte (acc : Half) : crc16Step acc (loByte acc) = (hiByte acc).setWidth 16 := by
  have hlow : ∀ i < 8, (acc ^^^ (loByte acc).setWidth 16).getLsbD i = false := fun i hi => by
    simp [loByte, hi, Nat.lt_trans hi (by decide : 8 < 16)]
  rw [crc16Step, crcShifts_of_low_zero 8 _ hlow]
  apply BitVec.eq_of_getLsbD_eq
  intro i hi
  by_cases h8 : i < 8
  · simp [loByte, hiByte, hi, h8]
  · have hbeyond : acc.getLsbD (8 + i) = false := BitVec.getLsbD_of_ge _ _ (by omega)
    simp [loByte, hiByte, hi, h8, hbeyond]

/-- Folding in the byte that is all the accumulator holds leaves 0. -/
theorem crc16Step_setWidth_self (b : Byte) : crc16Step (b.setWidth 16) b = 0#16 := by
  rw [crc16Step, BitVec.xor_self, crcShifts_of_low_zero 8 0#16 (fun _ _ => BitVec.getLsbD_zero), BitVec.zero_ushiftRight]

/-- An accumulator's own two bytes, low byte first, take it to 0 (40_crc.md R70 (c)). -/
theorem crc16From_own_bytes (acc : Half) : crc16From acc [loByte acc, hiByte acc] = 0#16 := by
  simp [crc16Step_loByte, crc16Step_setWidth_self]

/-- Settles O15: the trailer is the accumulator's own two bytes. -/
theorem crcResidueIsZero : Obligations.CrcResidueIsZero :=
  fun s => (crc16_append s _).trans (crc16From_own_bytes (crc16 s))

end Sys2Proof.Machine
end

section
/-! ### A changed byte changes the checksum -/

namespace Sys2Proof.Machine

/-- Bit 15 of the polynomial is set, and the shift itself clears that bit: it remembers the bit shifted out (40_crc.md
R67). -/
theorem crcShift_bit15 (a : Half) : (crcShift a).getLsbD 15 = a.getLsbD 0 := by
  cases h : a.getLsbD 0
  case false => simp [crcShift_of_even h]
  case true => simp [crcShift_of_odd h, Config.crcPolynomial]

/-- A value is its bit 0 and the bits above. -/
theorem eq_of_bit0_of_ushiftRight {a b : Half} (h0 : a.getLsbD 0 = b.getLsbD 0) (hrest : a >>> 1 = b >>> 1) :
    a = b := by
  apply BitVec.eq_of_getLsbD_eq
  rintro (_ | i) _
  · exact h0
  · simpa [Nat.add_comm] using congrArg (·.getLsbD i) hrest

/-- No information is lost in a shift: the bit shifted out reads in bit 15, the others are shifted and XORed with a value
that this bit decides. -/
theorem crcShift_injective : Function.Injective crcShift := by
  intro a b h
  have h0 : a.getLsbD 0 = b.getLsbD 0 := by rw [← crcShift_bit15, h, crcShift_bit15]
  refine eq_of_bit0_of_ushiftRight h0 ?_
  cases hb : b.getLsbD 0
  case false => rwa [crcShift_of_even (h0.trans hb), crcShift_of_even hb] at h
  case true =>
    rw [crcShift_of_odd (h0.trans hb), crcShift_of_odd hb] at h
    exact (BitVec.xor_left_inj _).mp h

theorem crcShifts_injective (n : Nat) : Function.Injective (crcShifts n) := by
  induction n with
  | zero => exact fun _ _ h => h
  | succ n ih => exact ih.comp crcShift_injective

/-- Different accumulators stay different under the same byte. -/
theorem crc16Step_injective_acc (b : Byte) : Function.Injective (crc16Step · b) :=
  fun _ _ h => (BitVec.xor_left_inj _).mp (crcShifts_injective 8 h)

/-- Different bytes take an accumulator to different values. -/
theorem crc16Step_injective_byte (acc : Half) : Function.Injective (crc16Step acc) := by
  intro b c h
  have hwide : b.setWidth 16 = c.setWidth 16 := (BitVec.xor_right_inj _).mp (crcShifts_injective 8 h)
  simpa using congrArg (BitVec.setWidth 8) hwide

theorem crc16From_injective (s : List Byte) : Function.Injective (crc16From · s) := by
  induction s with
  | nil => exact fun _ _ h => h
  | cons b s ih => exact ih.comp (crc16Step_injective_acc b)

/-- Settles O16: the two sequences reach the changed byte with one accumulator, leave it with two different ones, and the
bytes after it keep them different. -/
theorem crcDetectsAnyChangedByte : Obligations.CrcDetectsAnyChangedByte := by
  intro before after b c hne heq
  rw [crc16_append, crc16_append] at heq
  exact hne (crc16Step_injective_byte _ (crc16From_injective after heq))

end Sys2Proof.Machine
end

section
/-! ### The CRC engine's operations -/

namespace Sys2Proof

/-- Every read of a write-only register is WRONG_DIRECTION (30_encoding.md R57). -/
theorem decode_read_wo {r : RegName} (d : Word) (h : r.access = .wo) :
    decode (transaction false r.offset d) = .error .wrongDirection := by
  rw [decode_transaction_offset]
  exact (decodeRead_error_iff r).mpr h

namespace Machine

/-- All that CRC.INIT does (40_crc.md R72). -/
theorem exec_crcInit (s : State) :
    exec .crcInit s = .next { s with acc := Config.crcInitial, response := some ⟨.ok, 0#32⟩ } := rfl

/-- All that CRC.BYTE does (40_crc.md R73). -/
theorem exec_crcByte (b : Byte) (s : State) :
    exec (.crcByte b) s = .next { s with acc := crc16Step s.acc b, response := some ⟨.ok, 0#32⟩ } := rfl

/-- All that CRC.RD does (40_crc.md R74). -/
theorem exec_crcRd (s : State) :
    exec .crcRd s = .next { s with response := some ⟨.ok, BitVec.ofNat 32 s.acc.toNat⟩ } := by
  rw [BitVec.ofNat_toNat]
  rfl

/-- Settles O18: CRC_INIT is a write-only register. -/
theorem crcInitLoadsInitialValue : Obligations.CrcInitLoadsInitialValue :=
  ⟨decode_transaction_offset true .crcInit, exec_crcInit, fun d => decode_read_wo (r := .crcInit) d rfl⟩

/-- Settles O19: CRC_DATA is a write-only register, of whose data the decoder keeps the low byte. -/
theorem crcByteFoldsOneByte : Obligations.CrcByteFoldsOneByte :=
  ⟨decode_transaction_offset true .crcData, exec_crcByte, fun d => decode_read_wo (r := .crcData) d rfl⟩

/-- Settles O20: CRC_VALUE is a read-only register. -/
theorem crcReadRespondsAccumulator : Obligations.CrcReadRespondsAccumulator :=
  ⟨decode_transaction_offset false .crcValue, exec_crcRd, fun d => decode_write_ro (r := .crcValue) d rfl⟩

/-- CRC.BYTE for each byte, then CRC.RD, respond with the bytes folded into ACC (40_crc.md R75). -/
theorem execAll_crcBytes_crcRd (bs : List Byte) (s : State) :
    execAll (bs.map Instr.crcByte ++ [.crcRd]) s =
      .next { s with acc := crc16From s.acc bs
                     response := some ⟨.ok, BitVec.ofNat 32 (crc16From s.acc bs).toNat⟩ } := by
  induction bs generalizing s with
  | nil => exact execAll_cons _ _ _ _ (exec_crcRd s)
  | cons b bs ih => exact (execAll_cons _ _ _ _ (exec_crcByte b s)).trans (ih _)

/-- Settles O17: CRC.INIT loads the value from which the checksum folds. -/
theorem crcEngineComputesChecksum : Obligations.CrcEngineComputesChecksum :=
  fun bs s => (execAll_cons _ _ _ _ (exec_crcInit s)).trans (execAll_crcBytes_crcRd bs _)

end Machine
end Sys2Proof
end

/-! ## Proofs of the family of 41_frame_builder.md: what a build places, the reads of the frame, its checksum -/

section
/-! ### Every frame in TX_BUF ends with its checksum -/

namespace Sys2Proof.Machine

/-- "checksum is always the last two bytes" (41_frame_builder.md R87): bytes 6 and 7 are the checksum of the six bytes
before, low byte first. -/
def Buf8.EndsWithChecksum (b : Buf8) : Prop := crc16 (b.bytes.take 6) = le16 (b.get 6) (b.get 7)

theorem State.builtFrameChecked_iff (s : State) :
    s.BuiltFrameChecked ↔ (s.txLen ≠ 0#4 → s.txBuf.EndsWithChecksum) := Iff.rfl

/-- Reading the trailer's two bytes low byte first gives the checksum back (00_scope.md R7, 40_crc.md R69). -/
theorem le16_loByte_hiByte (w : Half) : le16 (loByte w) (hiByte w) = w :=
  (BitVec.extractLsb'_append_extractLsb'_eq_extractLsb' rfl).trans BitVec.extractLsb'_eq_self

/-- A command frame is laid out as six bytes and their trailer (30_encoding.md R60). -/
theorem commandFrame_endsWithChecksum (f : Byte) (reg payload : Half) :
    (commandFrame f reg payload).EndsWithChecksum := (le16_loByte_hiByte _).symm

/-- The frame of each of the four builds is a command frame (41_frame_builder.md R77, R82). -/
theorem builtFrame_eq_commandFrame {i : Instr} {f : Buf8} {e : BitVec 4} (h : builtFrame i = some (f, e)) :
    ∃ func reg payload, f = commandFrame func reg payload := by
  obtain rfl | rfl | rfl | ⟨d, rfl⟩ := eq_build_of_builtFrame h <;> cases h
  · exact ⟨_, _, _, readFrame_eq⟩
  · exact ⟨_, _, _, disableFrame_eq⟩
  · exact ⟨_, _, _, getcalFrame_eq⟩
  · exact ⟨_, _, _, setcalFrame_eq _⟩

/-- Every build places a frame that ends with its checksum (41_frame_builder.md R77, R82). -/
theorem builtFrame_endsWithChecksum {i : Instr} {f : Buf8} {e : BitVec 4} (h : builtFrame i = some (f, e)) :
    f.EndsWithChecksum := by
  obtain ⟨func, reg, payload, rfl⟩ := builtFrame_eq_commandFrame h
  exact commandFrame_endsWithChecksum func reg payload

/-- An instruction is a build, which fills TX_BUF with its frame, or leaves TX_BUF and TX_LEN as they are
(41_frame_builder.md R76). -/
theorem ExecEffect.tx_cases {i : Instr} {s t : State} (he : ExecEffect s i t) :
    (∃ f e, builtFrame i = some (f, e) ∧ t.txBuf = f ∧ t.txLen = 8#4) ∨ (t.txBuf = s.txBuf ∧ t.txLen = s.txLen) := by
  cases he with
  | build hi _ => exact .inl ⟨_, _, hi, rfl, rfl⟩
  | rxPush b => rw [pushByte_frame]; exact .inr ⟨rfl, rfl⟩
  | _ => exact .inr ⟨rfl, rfl⟩

/-- A new frame ends with its checksum, an old one still does. -/
theorem State.BuiltFrameChecked.execEffect {i : Instr} {s t : State} (h : s.BuiltFrameChecked)
    (he : ExecEffect s i t) : t.BuiltFrameChecked := by
  rw [State.builtFrameChecked_iff] at h ⊢
  obtain ⟨f, e, hf, hbuf, -⟩ | ⟨hbuf, hlen⟩ := he.tx_cases
  · exact fun _ => hbuf ▸ builtFrame_endsWithChecksum hf
  · rwa [hbuf, hlen]

/-- Settles O45, by the four kinds of step: a reset empties TX_BUF, an instruction has one of its effects, and an idle
step and a bus error leave TX_BUF alone. -/
theorem builtFrameChecksumIsKept : Obligations.BuiltFrameChecksumIsKept := by
  intro s t h hstep
  obtain ⟨-, hs⟩ | ⟨rest, -, hs⟩ | ⟨w, rest, i, -, -, hs⟩ | ⟨w, rest, c, -, -, hs⟩ := step_cases s <;>
    rw [hs] at hstep
  · cases hstep; exact h
  · cases hstep; exact reset_builtFrameChecked
  · have htaken : (s.setPending rest).BuiltFrameChecked := h
    exact htaken.execEffect (exec_effect hstep)
  · cases hstep; exact h

end Sys2Proof.Machine
end

section
/-! ### The builds -/

namespace Sys2Proof.Machine

/-- All that a well-formed build does (41_frame_builder.md R76). -/
theorem exec_build_eq {i : Instr} {f : Buf8} {e : BitVec 4} (hi : builtFrame i = some (f, e))
    (hw : i.wellFormed = true) (s : State) :
    exec i s = .next { s with txBuf := f, txLen := 8#4, expLen := e, response := some ⟨.ok, 0#32⟩ } :=
  exec_of_builtFrame hi hw s

/-- The range check of TX_SETCAL in numbers (41_frame_builder.md R82). -/
theorem periodLegal_iff (d : Word) : periodLegal d = true ↔ d.toNat ≤ 0xFFFF := by
  simp [periodLegal, Config.periodMax, BitVec.le_def]

/-- Of the data word the frame takes bits 15:8 and 7:0 (30_encoding.md R56). -/
theorem hiByte_periodOperand (d : Word) : hiByte (periodOperand d) = d.extractLsb' 8 8 :=
  BitVec.extractLsb'_extractLsb'_of_le (by decide)

theorem loByte_periodOperand (d : Word) : loByte (periodOperand d) = d.extractLsb' 0 8 :=
  BitVec.extractLsb'_extractLsb'_of_le (by decide)

/-- All that BUILD.SETCAL does with a legal data word (41_frame_builder.md R82). -/
theorem exec_buildSetcal_of_legal {d : Word} (hd : d.toNat ≤ 0xFFFF) (s : State) :
    exec (.buildSetcal d) s =
      .next { s with txBuf := setcalFrame (periodOperand d), txLen := 8#4, expLen := 8#4,
                     response := some ⟨.ok, 0#32⟩ } :=
  exec_build_eq (i := .buildSetcal d) rfl ((periodLegal_iff d).mpr hd) s

/-- All that BUILD.SETCAL does with an illegal data word: the bus error of its own register (41_frame_builder.md R82). -/
theorem exec_buildSetcal_of_illegal {d : Word} (hd : 0xFFFF < d.toNat) (s : State) :
    exec (.buildSetcal d) s =
      .next { s with errCause := some .invalidParameter, errAddr := 0x14#8, errWe := true,
                     response := some ⟨.err, 0#32⟩ } :=
  if_neg fun hlegal => Nat.not_le.mpr hd ((periodLegal_iff d).mp hlegal)

/-- Settles O22: TX_SETCAL is a write-only register, and decoder and operation make the same range check. -/
theorem setcalBuildsPeriodFrameOrErrs : Obligations.SetcalBuildsPeriodFrameOrErrs := by
  have hdecode : ∀ d, decode (transaction true 0x14#8 d) = decodeTxSetcal d :=
    decode_transaction_offset true .txSetcal
  refine ⟨fun d hd => ?legal, fun d s c hd hc => ?builds, fun d hd => ?illegal,
    fun d s hd => exec_buildSetcal_of_illegal hd s, fun d => decode_read_wo (r := .txSetcal) d rfl⟩
  case legal => exact (hdecode d).trans (if_pos ((periodLegal_iff d).mpr hd))
  case builds =>
    rw [exec_buildSetcal_of_legal hd, setcalFrame, setcalPrefix, hiByte_periodOperand, loByte_periodOperand, ← hc]
    rfl
  case illegal =>
    exact (hdecode d).trans (if_neg fun hlegal => Nat.not_le.mpr hd ((periodLegal_iff d).mp hlegal))

/-- The whole data word selects the frame, and there are three (30_encoding.md R57). -/
theorem decodeTxBuild_of_illegal {d : Word} (hd : d.toNat ∉ [0, 1, 2]) : decodeTxBuild d = .error .illegalCommand := by
  rw [decodeTxBuild, if_neg, if_neg, if_neg] <;> rintro rfl <;> exact hd (by decide)

/-- Settles O21: TX_BUILD is a write-only register, and each selector's build places its frame. -/
theorem fixedBuildsPlaceTheirFrames : Obligations.FixedBuildsPlaceTheirFrames := by
  have hdecode : ∀ d, decode (transaction true 0x10#8 d) = decodeTxBuild d :=
    decode_transaction_offset true .txBuild
  exact ⟨hdecode 0#32, hdecode 1#32, hdecode 2#32, exec_build_eq rfl rfl, exec_build_eq rfl rfl, exec_build_eq rfl rfl,
    fun d hd => (hdecode d).trans (decodeTxBuild_of_illegal hd), fun d => decode_read_wo (r := .txBuild) d rfl⟩

/-- BUILD.SETCAL 0 places the DISABLE frame (41_frame_builder.md R86). -/
theorem builtFrame_setcal_zero : builtFrame (.buildSetcal 0#32) = some (disableFrame, 8#4) := by
  have hperiod : periodOperand 0#32 = 0#16 := by decide
  rw [builtFrame, hperiod, setcalFrame_eq, disableFrame_eq]

/-- Settles O24: the two builds place one frame, whose trailer AC 03 is its checksum. -/
theorem setcalZeroIsDisable : Obligations.SetcalZeroIsDisable := by
  refine ⟨fun s => ?_, ?_⟩
  · exact (exec_build_eq builtFrame_setcal_zero rfl s).trans (exec_build_eq rfl rfl s).symm
  · have hdisable : disableFrame.EndsWithChecksum := builtFrame_endsWithChecksum (i := .buildDisable) rfl
    exact hdisable.trans (by decide)

end Sys2Proof.Machine
end

section
/-! ### The reads of the built frame -/

namespace Sys2Proof.Machine

/-- A byte appended at the low end moves every other byte up by one (20_memory.md R46). -/
theorem extractLsb'_append_byte_succ {v : Nat} (hi : BitVec v) (lo : Byte) (j : Nat) :
    (hi ++ lo).extractLsb' (8 * (j + 1)) 8 = hi.extractLsb' (8 * j) 8 :=
  BitVec.extractLsb'_append_eq_of_le (by omega)

/-- Byte `j` of four bytes packed little-endian is the `j`-th of them (20_memory.md R46). -/
theorem extractLsb'_packed (b0 b1 b2 b3 : Byte) {j : Nat} (hj : j < 4) :
    (b3 ++ b2 ++ b1 ++ b0).extractLsb' (8 * j) 8 = [b0, b1, b2, b3].getD j 0#8 := by
  interval_cases j
  · exact BitVec.extractLsb'_append_eq_right
  · exact (extractLsb'_append_byte_succ _ b0 0).trans BitVec.extractLsb'_append_eq_right
  · rw [extractLsb'_append_byte_succ _ b0 1, extractLsb'_append_byte_succ _ b1 0]
    exact BitVec.extractLsb'_append_eq_right
  · rw [extractLsb'_append_byte_succ _ b0 2, extractLsb'_append_byte_succ _ b1 1, extractLsb'_append_byte_succ _ b2 0]
    exact BitVec.extractLsb'_eq_self

theorem Buf8.extractLsb'_word0 (b : Buf8) {j : Nat} (hj : j < 4) : b.word0.extractLsb' (8 * j) 8 = b.get j :=
  (extractLsb'_packed b.b0 b.b1 b.b2 b.b3 hj).trans (by interval_cases j <;> rfl)

theorem Buf8.extractLsb'_word1 (b : Buf8) {j : Nat} (hj : j < 4) : b.word1.extractLsb' (8 * j) 8 = b.get (4 + j) :=
  (extractLsb'_packed b.b4 b.b5 b.b6 b.b7 hj).trans (by interval_cases j <;> rfl)

/-- All that TXLEN.RD does (41_frame_builder.md R83). -/
theorem exec_txlenRd (s : State) :
    exec .txlenRd s = .next { s with response := some ⟨.ok, BitVec.ofNat 32 s.txLen.toNat⟩ } := by
  rw [BitVec.ofNat_toNat]
  rfl

/-- Settles O23: the three are read-only registers, and the two data words hold TX_BUF byte by byte. -/
theorem txReadsRespondLengthAndBytes : Obligations.TxReadsRespondLengthAndBytes := by
  refine ⟨fun d => ?reads, exec_txlenRd, fun s => ?low, fun s => ?high, fun d => ?writes⟩
  case reads =>
    exact ⟨decode_transaction_offset false .txLen d, decode_transaction_offset false .txData0 d,
      decode_transaction_offset false .txData1 d⟩
  case low => exact ⟨s.txBuf.word0, rfl, fun _ hj => s.txBuf.extractLsb'_word0 hj⟩
  case high => exact ⟨s.txBuf.word1, rfl, fun _ hj => s.txBuf.extractLsb'_word1 hj⟩
  case writes =>
    exact ⟨decode_write_ro (r := .txLen) d rfl, decode_write_ro (r := .txData0) d rfl,
      decode_write_ro (r := .txData1) d rfl⟩

end Sys2Proof.Machine
end

/-! ## Proofs of the family of 42_receive.md: the push, the overflow, the reads of the receive buffer -/

section
/-! ### Received bytes -/

namespace Sys2Proof.Machine

/-- All that a push does where there is room (42_receive.md R92). -/
theorem exec_rxPush_of_room {s : State} (hroom : s.rxCount.toNat < 8) (b : Byte) :
    exec (.rxPush b) s =
      .next { s with rxBuf := s.rxBuf.set s.rxCount.toNat b, rxCount := s.rxCount + 1#4,
                     response := some ⟨.ok, 0#32⟩ } := by
  obtain ⟨-, hpush⟩ := (pushByte_cases s b).resolve_right fun hfull => Nat.not_le.mpr hroom hfull.left
  exact congrArg (fun t => Host.Outcome.next t.acknowledge) hpush

/-- All that a push does where the buffer is full (42_receive.md R92). -/
theorem exec_rxPush_of_full {s : State} (hfull : 8 ≤ s.rxCount.toNat) (b : Byte) :
    exec (.rxPush b) s = .next { s with rxOvf := true, response := some ⟨.ok, 0#32⟩ } := by
  obtain ⟨-, hpush⟩ := (pushByte_cases s b).resolve_left fun hroom => Nat.not_lt.mpr hfull hroom.left
  exact congrArg (fun t => Host.Outcome.next t.acknowledge) hpush

/-- RX_COUNT does not wrap where there is room for a byte (42_receive.md R92). -/
theorem rxCount_add_one_toNat {n : BitVec 4} (hroom : n.toNat < 8) : (n + 1#4).toNat = n.toNat + 1 :=
  BitVec.toNat_add_of_lt (by rw [BitVec.toNat_ofNat]; omega)

/-- After an overflow the length check fails, and no earlier check of the verdict applies, in either mode (43_parser.md
R105, R108). -/
theorem verdict_of_rxOvf {s : State} (hovf : s.rxOvf = true) (m : ParseMode) : verdict s m = .malformedLength := by
  have hlen : lenOk s = false := by simp [lenOk, hovf]
  rw [verdict, if_neg (by simp [hovf]), if_pos hlen]

/-- Settles O27: RX_DATA is a write-only register, of whose data the decoder keeps the low byte; a push finds room or a
full buffer; an overflow decides the verdict. -/
theorem rxPushAppendsOrOverflows : Obligations.RxPushAppendsOrOverflows := by
  refine ⟨decode_transaction_offset true .rxData, fun b s hroom => ?room,
    fun b _ hfull => exec_rxPush_of_full hfull b,
    fun s hovf => ?overflow, fun d => decode_read_wo (r := .rxData) d rfl⟩
  case room =>
    exact ⟨_, exec_rxPush_of_room hroom b, rfl, rxCount_add_one_toNat hroom, Buf8.get_set_self _ _ hroom,
      fun j hj => Buf8.get_set_other _ _ hj.symm⟩
  case overflow =>
    exact ⟨⟨_, rfl, verdict_of_rxOvf hovf .measurement⟩, ⟨_, rfl, verdict_of_rxOvf hovf .acknowledgment⟩⟩

/-- Settles O26: RX_CLEAR is a write-only register. -/
theorem rxClearEmptiesTheBuffer : Obligations.RxClearEmptiesTheBuffer :=
  ⟨decode_transaction_offset true .rxClear, fun _ => rfl, fun d => decode_read_wo (r := .rxClear) d rfl⟩

end Sys2Proof.Machine
end

section
/-! ### The reads of the receive buffer -/

namespace Sys2Proof.Machine

/-- RX_STATUS in numbers: the count, and 16 for the overflow flag above its 4 bits (10_state.md R32). -/
theorem rxStatusWord_eq (s : State) :
    rxStatusWord s = BitVec.ofNat 32 (s.rxCount.toNat + if s.rxOvf then 16 else 0) := by
  have hbits : (BitVec.ofBool s.rxOvf ++ s.rxCount).toNat = s.rxCount.toNat + if s.rxOvf then 16 else 0 := by
    rw [BitVec.toNat_append, ← Nat.shiftLeft_add_eq_or_of_lt s.rxCount.isLt, Nat.add_comm]
    cases s.rxOvf <;> rfl
  rw [rxStatusWord, ← hbits, BitVec.ofNat_toNat]

/-- All that RXSTAT.RD does (42_receive.md R93). -/
theorem exec_rxstatRd (s : State) :
    exec .rxstatRd s =
      .next { s with response := some ⟨.ok, BitVec.ofNat 32 (s.rxCount.toNat + if s.rxOvf then 16 else 0)⟩ } := by
  rw [← rxStatusWord_eq]
  rfl

/-- Settles O28: the three are read-only registers, and the two data words hold RX_BUF byte by byte. -/
theorem rxReadsRespondStatusAndBytes : Obligations.RxReadsRespondStatusAndBytes := by
  refine ⟨fun d => ?reads, exec_rxstatRd, fun s => ?low, fun s => ?high, fun d => ?writes⟩
  case reads =>
    exact ⟨decode_transaction_offset false .rxStatus d, decode_transaction_offset false .rxBuf0 d,
      decode_transaction_offset false .rxBuf1 d⟩
  case low => exact ⟨s.rxBuf.word0, rfl, fun _ hj => s.rxBuf.extractLsb'_word0 hj⟩
  case high => exact ⟨s.rxBuf.word1, rfl, fun _ hj => s.rxBuf.extractLsb'_word1 hj⟩
  case writes =>
    exact ⟨decode_write_ro (r := .rxStatus) d rfl, decode_write_ro (r := .rxBuf0) d rfl,
      decode_write_ro (r := .rxBuf1) d rfl⟩

end Sys2Proof.Machine
end

/-! ## Proofs of the family of 43_parser.md: the control registers, the verdict, what RESULT and VALUE hold together -/

section
/-! ### The first check that applies decides the verdict -/

namespace Sys2Proof.Machine

/-- All that the verdict can be, each with the checks that lead to it (43_parser.md R108). -/
theorem verdict_cases (s : State) (m : ParseMode) :
    (verdict s m = .noResponse ∧ s.rxCount = 0#4 ∧ s.rxOvf = false) ∨
    (verdict s m = .malformedLength ∧ (lenOk s = false ∨ m = .measurement ∧ s.rxCount.toNat < 5)) ∨
    (verdict s m = .malformedCrc ∧ lenOk s = true ∧ s.chkEn = true ∧ crcOk s = false) ∨
    (verdict s m = .ok ∧ lenOk s = true ∧ (s.chkEn = true → crcOk s = true)) := by
  unfold verdict
  split_ifs with hempty hlen hfloor hcrc
  · exact .inl ⟨rfl, hempty⟩
  · exact .inr (.inl ⟨rfl, .inl hlen⟩)
  · exact .inr (.inl ⟨rfl, .inr hfloor⟩)
  · exact .inr (.inr (.inl ⟨rfl, Bool.eq_true_of_not_eq_false hlen, hcrc⟩))
  · exact .inr (.inr (.inr ⟨rfl, Bool.eq_true_of_not_eq_false hlen,
      fun hchk => Bool.eq_true_of_not_eq_false fun hbad => hcrc ⟨hchk, hbad⟩⟩))

/-- Zero bytes are NO_RESPONSE in either mode (43_parser.md R108). -/
theorem verdict_of_empty {s : State} (hcount : s.rxCount = 0#4) (hovf : s.rxOvf = false) (m : ParseMode) :
    verdict s m = .noResponse := if_pos ⟨hcount, hovf⟩

/-- A response below the measurement floor fails the length check or the floor itself (43_parser.md R109). -/
theorem verdict_of_short {s : State} (hcount : s.rxCount ≠ 0#4) (hshort : s.rxCount.toNat < 5) :
    verdict s .measurement = .malformedLength := by
  rw [verdict, if_neg fun hempty => hcount hempty.left]
  cases hlen : lenOk s with
  | false => exact if_pos rfl
  | true => rw [if_neg Bool.true_eq_false.mp, if_pos ⟨rfl, hshort⟩]

/-- An acknowledgment of the expected length with a good checksum is OK, whether or not checksums are checked
(43_parser.md R108). -/
theorem verdict_ack_of_checks {s : State} (hcount : s.rxCount ≠ 0#4) (hlen : lenOk s = true) (hcrc : crcOk s = true) :
    verdict s .acknowledgment = .ok := by
  simp [verdict, hcount, hlen, hcrc]

/-- Only an OK measurement has a value (43_parser.md R108). -/
theorem parsedValue_eq_zero {s : State} {m : ParseMode} (h : ¬ (verdict s m = .ok ∧ m = .measurement)) :
    parsedValue s m = 0#16 := if_neg h

end Sys2Proof.Machine
end

section
/-! ### RESULT and VALUE agree -/

namespace Sys2Proof.Machine

/-- An empty response has no trailer (43_parser.md R106). -/
theorem crcOk_of_empty {s : State} (hcount : s.rxCount = 0#4) : crcOk s = false := by
  simp [crcOk, hcount]

/-- An empty response echoes nothing: of a built frame it has not the length, and before a build there is no echo
(43_parser.md R107). -/
theorem echoEq_of_empty {s : State} (hcount : s.rxCount = 0#4) : echoEq s = false := by
  refine Bool.eq_false_iff.mpr fun hecho => ?_
  obtain ⟨-, hbuilt, hlength, -⟩ := (echoEq_iff s).mp hecho
  exact hbuilt (hlength.symm.trans hcount)

/-- A parse latches fields that agree, whatever was latched before: each clause is about one verdict, and that verdict's
checks give it (43_parser.md R108). -/
theorem parseFrame_resultConsistent (s : State) (m : ParseMode) : (parseFrame s m).ResultConsistent := by
  have hvalue : parsedValue s m ≠ 0#16 → verdict s m = .ok ∧ m = .measurement :=
    fun hne => by_contra fun hno => hne (parsedValue_eq_zero hno)
  rw [parseFrame_eq]
  obtain ⟨hv, hcount, -⟩ | ⟨hv, hlength⟩ | ⟨hv, hlen, -, hcrc⟩ | ⟨hv, hlen, -⟩ := verdict_cases s m <;>
    constructor <;> simp only [hv, reduceCtorEq, false_implies, true_implies]
  case inl.noResponse_clear => exact ⟨crcOk_of_empty hcount, echoEq_of_empty hcount⟩
  case inr.inl.badLength_reason => exact hlength.imp_right And.left
  case inr.inr.inl.badCrc_flags => exact ⟨hlen, hcrc⟩
  case inr.inr.inr.ok_length => exact hlen
  all_goals simpa only [hv, reduceCtorEq] using hvalue

/-- The agreement is about the RESULT fields and VALUE alone. -/
theorem State.ResultConsistent.of_sameResult {s t : State} (h : s.ResultConsistent) (hsame : sameResult s t) :
    t.ResultConsistent := by
  obtain ⟨hcode, hlen, hcrc, hecho, hmode, hvalue⟩ := hsame
  constructor <;> rw [hcode]
  · rw [hlen, hcrc, hecho, hmode]; exact h.none_clear
  · rw [hcrc, hecho]; exact h.noResponse_clear
  · rw [hlen]; exact h.ok_length
  · rw [hlen, hcrc]; exact h.badCrc_flags
  · rw [hlen, hmode]; exact h.badLength_reason
  · rw [hmode, hvalue]; exact h.value_only_ok

/-- An instruction is a parse, or leaves RESULT and VALUE as they are (10_state.md R39). -/
theorem ExecEffect.result_cases {i : Instr} {s t : State} (he : ExecEffect s i t) :
    (∃ m, t = (parseFrame s m).acknowledge) ∨ sameResult s t := by
  cases he with
  | parseMeas => exact .inl ⟨_, rfl⟩
  | parseAck => exact .inl ⟨_, rfl⟩
  | rxPush b => rw [pushByte_frame]; exact .inr ⟨rfl, rfl, rfl, rfl, rfl, rfl⟩
  | _ => exact .inr ⟨rfl, rfl, rfl, rfl, rfl, rfl⟩

/-- A parse latches fields that agree, any other instruction leaves them. -/
theorem State.ResultConsistent.execEffect {i : Instr} {s t : State} (h : s.ResultConsistent)
    (he : ExecEffect s i t) : t.ResultConsistent := by
  obtain ⟨m, rfl⟩ | hsame := he.result_cases
  · exact (parseFrame_resultConsistent s m).of_sameResult ⟨rfl, rfl, rfl, rfl, rfl, rfl⟩
  · exact h.of_sameResult hsame

/-- Settles O46, by the four kinds of step: a reset clears RESULT and VALUE, an instruction has one of its effects, and
an idle step and a bus error leave RESULT and VALUE alone. -/
theorem resultConsistencyIsKept : Obligations.ResultConsistencyIsKept := by
  intro s t h hstep
  obtain ⟨-, hs⟩ | ⟨rest, -, hs⟩ | ⟨w, rest, i, -, -, hs⟩ | ⟨w, rest, c, -, -, hs⟩ := step_cases s <;>
    rw [hs] at hstep
  · cases hstep; exact h.of_sameResult ⟨rfl, rfl, rfl, rfl, rfl, rfl⟩
  · cases hstep; exact reset_resultConsistent.of_sameResult ⟨rfl, rfl, rfl, rfl, rfl, rfl⟩
  · have htaken : (s.setPending rest).ResultConsistent := h.of_sameResult ⟨rfl, rfl, rfl, rfl, rfl, rfl⟩
    exact htaken.execEffect (exec_effect hstep)
  · cases hstep; exact h.of_sameResult ⟨rfl, rfl, rfl, rfl, rfl, rfl⟩

end Sys2Proof.Machine
end

section
/-! ### PARSE.MEAS and PARSE.ACK -/

namespace Sys2Proof.Machine

/-- The parse instruction of a mode (43_parser.md R109, R110). -/
def parseInstr : ParseMode → Instr
  | .measurement => .parseMeas
  | .acknowledgment => .parseAck

/-- All that a parse instruction does (43_parser.md R108 to R110). -/
theorem exec_parseInstr (s : State) (m : ParseMode) :
    exec (parseInstr m) s =
      .next { s with resCode := verdict s m, resLenOk := lenOk s, resCrcOk := crcOk s, resEchoEq := echoEq s,
                     resMode := m, value := parsedValue s m, response := some ⟨.ok, 0#32⟩ } := by
  cases m <;> rfl

/-- Two bytes in numbers, the first the more significant (00_scope.md R7). -/
theorem be16_toNat (first second : Byte) : (be16 first second).toNat = first.toNat * 256 + second.toNat := by
  rw [be16, BitVec.toNat_append, ← Nat.shiftLeft_add_eq_or_of_lt second.isLt, Nat.shiftLeft_eq]

/-- Two bytes in numbers, the first the less significant (00_scope.md R7). -/
theorem le16_toNat (first second : Byte) : (le16 first second).toNat = first.toNat + second.toNat * 256 :=
  (be16_toNat second first).trans (Nat.add_comm _ _)

/-- The checksum check in numbers (43_parser.md R106). -/
theorem crcOk_iff_toNat (s : State) : crcOk s = true ↔
    s.rxOvf = false ∧ 2 ≤ s.rxCount.toNat ∧
      (crc16 (s.rxBuf.bytes.take (s.rxCount.toNat - 2))).toNat =
        (s.rxBuf.get (s.rxCount.toNat - 2)).toNat + (s.rxBuf.get (s.rxCount.toNat - 1)).toNat * 256 := by
  rw [crcOk_iff, ← BitVec.toNat_inj, receivedTrailer, le16_toNat, coveredBytes]

/-- VALUE in numbers (43_parser.md R108). -/
theorem parsedValue_toNat (s : State) (m : ParseMode) : (parsedValue s m).toNat =
    if verdict s m = .ok ∧ m = .measurement then (s.rxBuf.get 3).toNat * 256 + (s.rxBuf.get 4).toNat else 0 := by
  rw [parsedValue, apply_ite BitVec.toNat, measurementOf, be16_toNat]
  rfl

/-- The whole data word selects the mode, and there are two (30_encoding.md R57). -/
theorem decodeParse_of_illegal {d : Word} (hd : d.toNat ∉ [0, 1]) : decodeParse d = .error .illegalCommand := by
  rw [decodeParse, if_neg, if_neg] <;> rintro rfl <;> exact hd (by decide)

/-- Settles O32: PARSE is a write-only register, and a parse latches the verdict, the three checks and the value, each
with its own lemma. -/
theorem parseLatchesVerdictFlagsAndValue : Obligations.ParseLatchesVerdictFlagsAndValue := by
  have hdecode : ∀ d, decode (transaction true 0x3C#8 d) = decodeParse d :=
    decode_transaction_offset true .parse
  refine ⟨hdecode 0#32, hdecode 1#32, fun d hd => (hdecode d).trans (decodeParse_of_illegal hd),
    fun d => decode_read_wo (r := .parse) d rfl, fun s i m _ hinstr => ?_⟩
  obtain rfl : i = parseInstr m := by obtain ⟨rfl, rfl⟩ | ⟨rfl, rfl⟩ := hinstr <;> rfl
  exact ⟨_, exec_parseInstr s m, rfl, lenOk_iff s, crcOk_iff_toNat s, echoEq_iff s, rfl, parsedValue_toNat s m⟩

/-- Settles O33: no bytes are no response, 1 to 4 are below the measurement floor, and neither verdict has a value. -/
theorem shortMeasurementNeverDecodes : Obligations.ShortMeasurementNeverDecodes := by
  intro s hovf hshort
  refine ⟨_, exec_parseInstr s .measurement, parsedValue_eq_zero fun ⟨hok, _⟩ => ?value,
    fun hcount => congrArg ResultCode.code (verdict_of_empty hcount hovf _),
    fun hcount => congrArg ResultCode.code (verdict_of_short hcount hshort)⟩
  by_cases hcount : s.rxCount = 0#4
  · cases hok.symm.trans (verdict_of_empty hcount hovf _)
  · cases hok.symm.trans (verdict_of_short hcount hshort)

/-- Eight received bytes that end with their checksum pass the checksum check (43_parser.md R106). -/
theorem crcOk_of_endsWithChecksum {s : State} (hframe : s.rxBuf.EndsWithChecksum) (hcount : s.rxCount = 8#4)
    (hovf : s.rxOvf = false) : crcOk s = true := by
  rw [crcOk_iff, coveredBytes, receivedTrailer, hcount]
  exact ⟨hovf, by decide, hframe⟩

/-- Settles O34: the received bytes are the built frame, so they have its length and end with its checksum, and all
three checks pass. -/
theorem exactEchoOfBuiltFrameIsOk : Obligations.ExactEchoOfBuiltFrameIsOk := by
  intro s hchecked hbuilt hecho hcount hovf hexp
  have hlen : lenOk s = true := (lenOk_iff s).mpr ⟨hovf, hcount.trans hexp.symm⟩
  have hframe : s.rxBuf.EndsWithChecksum := by
    rw [hecho]
    exact hchecked (by rw [hbuilt]; decide)
  have hcrc : crcOk s = true := crcOk_of_endsWithChecksum hframe hcount hovf
  have heq : echoEq s = true :=
    (echoEq_iff s).mpr ⟨hovf, by rw [hbuilt]; decide, hcount.trans hbuilt.symm, fun _ _ => by rw [hecho]⟩
  have hok : verdict s .acknowledgment = .ok := verdict_ack_of_checks (by rw [hcount]; decide) hlen hcrc
  exact ⟨_, exec_parseInstr s .acknowledgment, congrArg ResultCode.code hok, hlen, hcrc, heq, rfl,
    parsedValue_eq_zero fun ⟨_, hmode⟩ => by cases hmode⟩

end Sys2Proof.Machine
end

section
/-! ### CTRL and EXP_LEN -/

namespace Sys2Proof.Machine

/-- All that CTRL.RD does (43_parser.md R100). -/
theorem exec_ctrlRd (s : State) :
    exec .ctrlRd s = .next { s with response := some ⟨.ok, if s.chkEn then 1#32 else 0#32⟩ } := by
  have hword : (BitVec.ofBool s.chkEn).setWidth 32 = if s.chkEn then 1#32 else 0#32 := by cases s.chkEn <;> rfl
  rw [← hword]
  rfl

/-- Settles O30: CTRL is readable and writable, and of the data the decoder keeps bit 0. -/
theorem ctrlHoldsOneBit : Obligations.CtrlHoldsOneBit :=
  ⟨decode_transaction_offset false .ctrl, decode_transaction_offset true .ctrl, exec_ctrlRd, fun _ _ => rfl⟩

/-- The range check of EXP_LEN in numbers (43_parser.md R103). -/
theorem lengthLegal_iff (d : Word) : lengthLegal d = true ↔ d.toNat ≤ 8 := by
  simp [lengthLegal, Config.expLenMax, BitVec.le_def]

/-- All that EXPLEN.RD does (43_parser.md R102). -/
theorem exec_explenRd (s : State) :
    exec .explenRd s = .next { s with response := some ⟨.ok, BitVec.ofNat 32 s.expLen.toNat⟩ } := by
  rw [BitVec.ofNat_toNat]
  rfl

/-- All that EXPLEN.WR does with a legal data word (43_parser.md R103). -/
theorem exec_explenWr_of_legal {d : Word} (hd : d.toNat ≤ 8) (s : State) :
    exec (.explenWr d) s =
      .next { s with expLen := BitVec.ofNat 4 d.toNat, response := some ⟨.ok, 0#32⟩ } :=
  if_pos ((lengthLegal_iff d).mpr hd)

/-- All that EXPLEN.WR does with an illegal data word: the bus error of its own register (43_parser.md R103). -/
theorem exec_explenWr_of_illegal {d : Word} (hd : 8 < d.toNat) (s : State) :
    exec (.explenWr d) s =
      .next { s with errCause := some .invalidParameter, errAddr := 0x24#8, errWe := true,
                     response := some ⟨.err, 0#32⟩ } :=
  if_neg fun hlegal => Nat.not_le.mpr hd ((lengthLegal_iff d).mp hlegal)

/-- Settles O31: EXP_LEN is readable and writable, and decoder and operation make the same range check. -/
theorem expLenHoldsZeroToEightOrErrs : Obligations.ExpLenHoldsZeroToEightOrErrs := by
  have hdecode : ∀ d, decode (transaction true 0x24#8 d) = decodeExpLen d :=
    decode_transaction_offset true .expLen
  refine ⟨decode_transaction_offset false .expLen, exec_explenRd, fun d hd => ?legal,
    fun d s hd => exec_explenWr_of_legal hd s, fun d hd => ?illegal, fun d s hd => exec_explenWr_of_illegal hd s⟩
  case legal => exact (hdecode d).trans (if_pos ((lengthLegal_iff d).mpr hd))
  case illegal =>
    exact (hdecode d).trans (if_neg fun hlegal => Nat.not_le.mpr hd ((lengthLegal_iff d).mp hlegal))

end Sys2Proof.Machine
end

/-! ## Proofs of the family of 44_error_register.md: the reads and the clearing of ERR_INFO -/

section
/-! ### ERR.RD and ERR.CLEAR -/

namespace Sys2Proof.Machine

/-- Above its own width a bit vector reads 0. -/
theorem extractLsb'_of_width_le {n : Nat} (x : BitVec n) {start : Nat} (len : Nat) (h : n ≤ start) :
    x.extractLsb' start len = 0#len := by
  apply BitVec.eq_of_getLsbD_eq
  intro j hj
  have hout : x.getLsbD (start + j) = false := BitVec.getLsbD_of_ge _ _ (by omega)
  rw [BitVec.getLsbD_extractLsb', hout, Bool.and_false, BitVec.getLsbD_zero]

/-- The fields of ERR_INFO fill bits 16:0; a slice of its word is that slice of the packed fields (10_state.md R38). -/
theorem errInfoWord_slice (s : State) {start len : Nat} (h : start + len ≤ 32) :
    (errInfoWord s).extractLsb' start len =
      (BitVec.ofBool s.errWe ++ s.errAddr ++ 0#5 ++ errCauseCode s.errCause).extractLsb' start len :=
  BitVec.extractLsb'_setWidth_of_le h

/-- ERR_INFO bits 2:0 are CAUSE (10_state.md R38). -/
theorem errInfoWord_cause (s : State) : (errInfoWord s).extractLsb' 0 3 = errCauseCode s.errCause :=
  (errInfoWord_slice s (by decide)).trans BitVec.extractLsb'_append_eq_right

/-- ERR_INFO bits 7:3 read 0 (10_state.md R38). -/
theorem errInfoWord_gap (s : State) : (errInfoWord s).extractLsb' 3 5 = 0#5 := by
  rw [errInfoWord_slice s (by decide), BitVec.extractLsb'_append_eq_of_le (by decide)]
  exact BitVec.extractLsb'_append_eq_right

/-- ERR_INFO bits 15:8 are ADDR (10_state.md R38). -/
theorem errInfoWord_addr (s : State) : (errInfoWord s).extractLsb' 8 8 = s.errAddr := by
  rw [errInfoWord_slice s (by decide), BitVec.extractLsb'_append_eq_of_le (by decide),
    BitVec.extractLsb'_append_eq_of_le (by decide)]
  exact BitVec.extractLsb'_append_eq_right

/-- ERR_INFO bit 16 is WE (10_state.md R38). -/
theorem errInfoWord_we (s : State) : (errInfoWord s).getLsbD 16 = s.errWe := by
  simp only [errInfoWord, BitVec.getLsbD_setWidth, BitVec.getLsbD_append, BitVec.getLsbD_ofBool]
  simp

/-- ERR_INFO bits 31:17 read 0 (10_state.md R38). -/
theorem errInfoWord_high (s : State) : (errInfoWord s).extractLsb' 17 15 = 0#15 :=
  (errInfoWord_slice s (by decide)).trans (extractLsb'_of_width_le _ 15 (by decide))

/-- All that ERR.RD does: it responds the word of ERR_INFO and does not clear it (44_error_register.md R120). -/
theorem exec_errRd (s : State) : exec .errRd s = .next { s with response := some ⟨.ok, errInfoWord s⟩ } := rfl

/-- All that ERR.CLEAR does, whether an error is recorded or not (44_error_register.md R121). -/
theorem exec_errClear (s : State) :
    exec .errClear s =
      .next { s with errCause := none, errAddr := 0#8, errWe := false, response := some ⟨.ok, 0#32⟩ } := rfl

/-- Settles O36: ERR_INFO is readable and writable, whatever the data, and its word is given field by field. -/
theorem errInfoReadsAndClears : Obligations.ErrInfoReadsAndClears := by
  refine ⟨fun d => ?decodes, fun s => ?reads, exec_errClear⟩
  case decodes => exact ⟨decode_transaction_offset false .errInfo d, decode_transaction_offset true .errInfo d⟩
  case reads =>
    refine ⟨errInfoWord s, exec_errRd s, ?cause, errInfoWord_gap s, errInfoWord_addr s, errInfoWord_we s,
      errInfoWord_high s⟩
    rw [errInfoWord_cause]
    obtain _ | c := s.errCause
    · rfl
    · cases c <;> rfl

end Sys2Proof.Machine
end

/-! ## Proofs of the family of 60_exceptions.md: the causes of a bus error, what it changes, the answer of a step -/

section
/-! ### Which words raise which cause -/

namespace Sys2Proof

/-- The transactions of each cause, in numbers (60_exceptions.md R125, R127). -/
def RaisesCause (we : Bool) (addr : Byte) (d : Word) : BusCause → Prop
  | .misaligned => addr.toNat % 4 ≠ 0
  | .unmapped => addr.toNat % 4 = 0 ∧ 0x4C ≤ addr.toNat
  | .wrongDirection =>
    (we = true ∧ addr.toNat ∈ [0x0C, 0x18, 0x1C, 0x20, 0x30, 0x34, 0x38, 0x40, 0x44]) ∨
      (we = false ∧ addr.toNat ∈ [0x04, 0x08, 0x10, 0x14, 0x28, 0x2C, 0x3C])
  | .illegalCommand =>
    we = true ∧ ((addr = 0x10#8 ∧ d.toNat ∉ [0, 1, 2]) ∨ (addr = 0x3C#8 ∧ d.toNat ∉ [0, 1]))
  | .invalidParameter => we = true ∧ ((addr = 0x14#8 ∧ 0xFFFF < d.toNat) ∨ (addr = 0x24#8 ∧ 8 < d.toNat))

/-! The address in numbers. -/

/-- `ADDR[1:0]` is the offset's remainder by 4 (30_encoding.md R57). -/
theorem addr_aligned_iff (a : Byte) : a.extractLsb' 0 2 = 0#2 ↔ a.toNat % 4 = 0 := by
  rw [← BitVec.toNat_inj, BitVec.extractLsb'_toNat, Nat.shiftRight_zero]
  rfl

/-- The map ends below 0x4C, the word-aligned offset after 0x48 (10_state.md R19). -/
theorem registerAt_none_iff_toNat {a : Byte} (h : a.toNat % 4 = 0) : registerAt a = none ↔ 0x4C ≤ a.toNat := by
  rw [registerAt_none_iff a ((addr_aligned_iff a).mpr h), BitVec.lt_def]
  simp only [BitVec.toNat_ofNat]
  omega

/-- The offsets of the registers of one access type, in the order of the map. -/
def offsetsOf (acc : Access) : List Nat := (RegName.all.filter (·.access = acc)).map (·.offset.toNat)

theorem mem_offsetsOf_iff (acc : Access) (a : Byte) :
    a.toNat ∈ offsetsOf acc ↔ ∃ r : RegName, r.offset = a ∧ r.access = acc := by
  simp [offsetsOf, RegName.mem_all, BitVec.toNat_inj, and_comm]

/-- The read-only registers of 10_state.md R19. -/
theorem offsetsOf_ro : offsetsOf .ro = [0x0C, 0x18, 0x1C, 0x20, 0x30, 0x34, 0x38, 0x40, 0x44] := by decide

/-- The write-only registers of 10_state.md R19. -/
theorem offsetsOf_wo : offsetsOf .wo = [0x04, 0x08, 0x10, 0x14, 0x28, 0x2C, 0x3C] := by decide

theorem raisesCause_wrongDirection_iff (we : Bool) (a : Byte) (d : Word) :
    RaisesCause we a d .wrongDirection ↔
      (we = true ∧ ∃ r : RegName, r.offset = a ∧ r.access = .ro) ∨
        (we = false ∧ ∃ r : RegName, r.offset = a ∧ r.access = .wo) := by
  rw [← mem_offsetsOf_iff, ← mem_offsetsOf_iff, offsetsOf_ro, offsetsOf_wo]
  rfl

/-! A word that fails a check gets the cause of that check. -/

theorem decodeFields_of_misaligned {a : Byte} (we : Bool) (d : Word) (h : a.toNat % 4 ≠ 0) :
    decodeFields we a d = .error .misaligned :=
  if_pos fun haligned => h ((addr_aligned_iff a).mp haligned)

theorem decodeFields_of_unmapped {a : Byte} (we : Bool) (d : Word) (haligned : a.toNat % 4 = 0)
    (habove : 0x4C ≤ a.toNat) : decodeFields we a d = .error .unmapped := by
  simp [decodeFields, (addr_aligned_iff a).mpr haligned, (registerAt_none_iff_toNat haligned).mpr habove]

/-- At a register's offset the decoder asks only the direction, then the data (30_encoding.md R57). -/
theorem decode_of_offset {t : BusWord} {r : RegName} (h : r.offset = t.addr) :
    decode t = if t.we then decodeWrite r t.wdata else decodeRead r := by
  conv_lhs => rw [← transaction_fields t, ← h]
  exact decode_transaction_offset t.we r t.wdata

theorem decodeTxSetcal_of_illegal {d : Word} (hd : 0xFFFF < d.toNat) :
    decodeTxSetcal d = .error .invalidParameter :=
  if_neg fun hlegal => Nat.not_le.mpr hd ((Machine.periodLegal_iff d).mp hlegal)

theorem decodeExpLen_of_illegal {d : Word} (hd : 8 < d.toNat) : decodeExpLen d = .error .invalidParameter :=
  if_neg fun hlegal => Nat.not_le.mpr hd ((Machine.lengthLegal_iff d).mp hlegal)

/-- Each description of a cause is sufficient: the checks before it pass and its own fails (60_exceptions.md R127). -/
theorem decode_of_raisesCause {t : BusWord} {c : BusCause} (h : RaisesCause t.we t.addr t.wdata c) :
    decode t = .error c := by
  have hwrite (r : RegName) (hwe : t.we = true) (haddr : r.offset = t.addr) : decode t = decodeWrite r t.wdata :=
    (decode_of_offset haddr).trans (if_pos hwe)
  have hread (r : RegName) (hwe : t.we = false) (haddr : r.offset = t.addr) : decode t = decodeRead r :=
    (decode_of_offset haddr).trans (if_neg (Bool.eq_false_iff.mp hwe))
  cases c with
  | misaligned => exact decodeFields_of_misaligned _ _ h
  | unmapped =>
    obtain ⟨haligned, habove⟩ := h
    exact decodeFields_of_unmapped _ _ haligned habove
  | wrongDirection =>
    obtain ⟨hwe, r, haddr, hro⟩ | ⟨hwe, r, haddr, hwo⟩ := (raisesCause_wrongDirection_iff _ _ _).mp h
    · exact (hwrite r hwe haddr).trans (decodeWrite_ro r _ hro)
    · exact (hread r hwe haddr).trans ((decodeRead_error_iff r).mpr hwo)
  | illegalCommand =>
    obtain ⟨hwe, ⟨haddr, hd⟩ | ⟨haddr, hd⟩⟩ := h
    · exact (hwrite .txBuild hwe haddr.symm).trans (Machine.decodeTxBuild_of_illegal hd)
    · exact (hwrite .parse hwe haddr.symm).trans (Machine.decodeParse_of_illegal hd)
  | invalidParameter =>
    obtain ⟨hwe, ⟨haddr, hd⟩ | ⟨haddr, hd⟩⟩ := h
    · exact (hwrite .txSetcal hwe haddr.symm).trans (decodeTxSetcal_of_illegal hd)
    · exact (hwrite .expLen hwe haddr.symm).trans (decodeExpLen_of_illegal hd)

/-! A word that gets a cause fails the check of that cause. -/

theorem raisesCause_of_decodeRead {r : RegName} {c : BusCause} (d : Word) (h : decodeRead r = .error c) :
    RaisesCause false r.offset d c := by
  obtain rfl : c = .wrongDirection := by cases r <;> cases h <;> rfl
  exact (raisesCause_wrongDirection_iff _ _ _).mpr (.inr ⟨rfl, r, rfl, (decodeRead_error_iff r).mp h⟩)

theorem raisesCause_of_decodeTxBuild {d : Word} {c : BusCause} (h : decodeTxBuild d = .error c) :
    RaisesCause true RegName.txBuild.offset d c := by
  unfold decodeTxBuild at h
  split_ifs at h with h0 h1 h2
  cases h
  exact ⟨rfl, .inl ⟨rfl, by simpa [← BitVec.toNat_inj] using And.intro h0 (And.intro h1 h2)⟩⟩

theorem raisesCause_of_decodeParse {d : Word} {c : BusCause} (h : decodeParse d = .error c) :
    RaisesCause true RegName.parse.offset d c := by
  unfold decodeParse at h
  split_ifs at h with h0 h1
  cases h
  exact ⟨rfl, .inr ⟨rfl, by simpa [← BitVec.toNat_inj] using And.intro h0 h1⟩⟩

theorem raisesCause_of_decodeTxSetcal {d : Word} {c : BusCause} (h : decodeTxSetcal d = .error c) :
    RaisesCause true RegName.txSetcal.offset d c := by
  unfold decodeTxSetcal at h
  split_ifs at h with hd
  cases h
  exact ⟨rfl, .inl ⟨rfl, Nat.not_le.mp fun hle => hd ((Machine.periodLegal_iff d).mpr hle)⟩⟩

theorem raisesCause_of_decodeExpLen {d : Word} {c : BusCause} (h : decodeExpLen d = .error c) :
    RaisesCause true RegName.expLen.offset d c := by
  unfold decodeExpLen at h
  split_ifs at h with hd
  cases h
  exact ⟨rfl, .inr ⟨rfl, Nat.not_le.mp fun hle => hd ((Machine.lengthLegal_iff d).mpr hle)⟩⟩

theorem raisesCause_of_decodeWrite {r : RegName} {d : Word} {c : BusCause} (h : decodeWrite r d = .error c) :
    RaisesCause true r.offset d c := by
  cases r with
  | txBuild => exact raisesCause_of_decodeTxBuild h
  | parse => exact raisesCause_of_decodeParse h
  | txSetcal => exact raisesCause_of_decodeTxSetcal h
  | expLen => exact raisesCause_of_decodeExpLen h
  | crcValue | txLen | txData0 | txData1 | rxStatus | rxBuf0 | rxBuf1 | result | value =>
    cases h
    exact (raisesCause_wrongDirection_iff _ _ _).mpr (.inl ⟨rfl, _, rfl, rfl⟩)
  | ctrl | crcInit | crcData | rxClear | rxData | errInfo => cases h

/-- Each description of a cause is necessary: along the check order of 30_encoding.md R57. -/
theorem raisesCause_of_decode {t : BusWord} {c : BusCause} (h : decode t = .error c) :
    RaisesCause t.we t.addr t.wdata c := by
  unfold decode decodeFields at h
  split at h
  next hmisaligned =>
    cases h
    exact fun haligned => hmisaligned ((addr_aligned_iff _).mpr haligned)
  next haligned =>
    replace haligned := (addr_aligned_iff _).mp (not_not.mp haligned)
    split at h
    next hnone =>
      cases h
      exact ⟨haligned, (registerAt_none_iff_toNat haligned).mp hnone⟩
    next r hr =>
      rw [← offset_of_registerAt hr]
      cases hwe : t.we <;> rw [hwe] at h
      · exact raisesCause_of_decodeRead _ h
      · exact raisesCause_of_decodeWrite h

/-- The decoder answers a cause exactly on the words of that cause (30_encoding.md R59, 60_exceptions.md R127). -/
theorem decode_error_iff (t : BusWord) (c : BusCause) :
    decode t = .error c ↔ RaisesCause t.we t.addr t.wdata c :=
  ⟨raisesCause_of_decode, decode_of_raisesCause⟩

/-- Settles O11, cause by cause: a description is sufficient because the checks before it pass and its own fails, and
necessary because the decoder has no other way to that cause. -/
theorem errorCausesOfIllegalWords : Obligations.ErrorCausesOfIllegalWords :=
  fun t => ⟨decode_error_iff t .misaligned, decode_error_iff t .unmapped, decode_error_iff t .wrongDirection,
    decode_error_iff t .illegalCommand, decode_error_iff t .invalidParameter⟩

/-! A word and the instruction it decodes to have the same direction. -/

/-- A row fixes the direction and the offset, or the whole word (30_encoding.md R58). -/
theorem row_mask_cases (i : Instr) : i.row.mask = addressMask ∨ i.row.mask = wholeMask := by
  cases i <;> simp [Instr.row]

/-- Every row of the opcode table fixes the direction (30_encoding.md R58). -/
theorem row_mask_we (i : Instr) : i.row.mask.we = true := by
  obtain hmask | hmask := row_mask_cases i <;> rw [hmask] <;> decide

theorem BusWord.and_we (t u : BusWord) : (t &&& u).we = (t.we && u.we) := BitVec.getLsbD_and

/-- A word and the canonical word of its instruction select the same row, so they agree in `WE` (30_encoding.md R58). -/
theorem encode_we_of_decode {t : BusWord} {i : Instr} (h : decode t = .ok i) : (encode i).we = t.we := by
  obtain ⟨hwf, hword⟩ := selects_of_decode h
  obtain ⟨-, hcanonical⟩ := selects_of_decode (decode_encode hwf)
  have hbits : encode i &&& i.row.mask = t &&& i.row.mask :=
    ((i.row.selects_iff _).mp hcanonical).trans ((i.row.selects_iff t).mp hword).symm
  simpa [BusWord.and_we, row_mask_we] using congrArg BusWord.we hbits

end Sys2Proof
end

section
/-! ### What a bus error changes, what a step answers, and the idle step -/

namespace Sys2Proof.Machine

/-- Settles O2: all that taking a bus error does, after the event has left `pending`. -/
theorem busErrorRecordsOnlyErrInfo : Obligations.BusErrorRecordsOnlyErrInfo := by
  intro s t rest c hpending hdecode
  rw [step_of_decode_error hpending hdecode, State.raiseBusError_eq]
  rfl

/-- The answer of an instruction: OK with data on a read, OK with data 0 on a write, ERR with data 0 (20_memory.md
R45). -/
theorem ExecEffect.response {i : Instr} {s t : State} (he : ExecEffect s i t) :
    ∃ r, t.response = some r ∧ (isReadInstr i = false → r.rdata = 0#32) ∧ (r.resp = .err → r.rdata = 0#32) := by
  cases he with
  | read hi v => exact ⟨⟨.ok, v⟩, rfl, fun hwrite => absurd hi (by simp [hwrite]), fun herr => by cases herr⟩
  | illFormed _ a => exact ⟨⟨.err, 0#32⟩, rfl, fun _ => rfl, fun _ => rfl⟩
  | _ => exact ⟨⟨.ok, 0#32⟩, rfl, fun _ => rfl, fun _ => rfl⟩

/-- Settles O3: a word that decodes runs an instruction, which completes, answers and leaves the coming events alone; a
word that does not takes a bus error. -/
theorem everyTransactionAnswersOkOrErr : Obligations.EveryTransactionAnswersOkOrErr := by
  intro s t rest hpending
  cases hdecode : decode t with
  | ok i =>
    obtain ⟨s', hexec⟩ := exec_completes i (s.setPending rest)
    obtain ⟨r, hresponse, hwrite, herr⟩ := (exec_effect hexec).response
    refine ⟨s', r, (step_of_decode_ok hpending hdecode).trans hexec, exec_pending hexec, hresponse, fun hwe => ?_, herr⟩
    exact hwrite (by simp [isReadInstr, encode_we_of_decode hdecode, hwe])
  | error c =>
    exact ⟨_, ⟨.err, 0#32⟩, step_of_decode_error hpending hdecode, rfl, rfl, fun _ => rfl, fun _ => rfl⟩

/-- With no event pending the step idles (60_exceptions.md R138; log entry 3). -/
theorem step_of_no_event {s : State} (h : s.pending = []) : step s = .next s.idle := by
  simp [step, State.takeEvent_nil h]

/-- Settles O6: an idle step changes the bus response only. -/
theorem idleStepKeepsEveryElement : Obligations.IdleStepKeepsEveryElement := by
  intro s hpending
  rw [step_of_no_event hpending, State.idle_eq]

end Sys2Proof.Machine
end

/-! ## Proofs of the family of 70_reset_and_hazards.md: the reset event, what a transaction cannot undo, stale results -/

section
/-! ### The reset event, and what the step of a transaction can do -/

namespace Sys2Proof.Machine

/-- A pending reset puts every element at its reset value and leaves the coming events (70_reset_and_hazards.md R143; log
entry 2). -/
theorem step_of_reset_event {s : State} {rest : List BusEvent} (hpending : s.pending = .reset :: rest) :
    step s = .next (s.setPending rest).applyReset := by
  simp [step, State.takeEvent_cons hpending]

/-- Settles O5: the events that a reset keeps are those behind it, and State.reset has no response. -/
theorem resetEventRestoresResetState : Obligations.ResetEventRestoresResetState := by
  intro s rest hpending
  rw [step_of_reset_event hpending, State.applyReset_eq]
  rfl

/-- The step of a transaction is the instruction it decodes to, or a bus error (20_memory.md R47, 60_exceptions.md
R126). -/
theorem step_transaction_cases {s t : State} {w : BusWord} {rest : List BusEvent}
    (hpending : s.pending = .transaction w :: rest) (hstep : step s = .next t) :
    (∃ i, decode w = .ok i ∧ exec i (s.setPending rest) = .next t) ∨
      ∃ c, decode w = .error c ∧ t = (s.setPending rest).raiseBusError c w.addr w.we := by
  cases hdecode : decode w with
  | ok i =>
    rw [step_of_decode_ok hpending hdecode] at hstep
    exact .inl ⟨i, rfl, hstep⟩
  | error c =>
    rw [step_of_decode_error hpending hdecode] at hstep
    cases hstep
    exact .inr ⟨c, rfl, rfl⟩

end Sys2Proof.Machine
end

section
/-! ### RESULT and VALUE are stale until the next PARSE or reset -/

namespace Sys2Proof.Machine

/-- A decoded instruction that is no PARSE keeps RESULT and VALUE, whose only writers are the two PARSEs (10_state.md
R39, 70_reset_and_hazards.md R149). -/
theorem exec_sameResult_of_not_parse {w : BusWord} {i : Instr} {s t : State} (hdecode : decode w = .ok i)
    (hmeas : decode w ≠ .ok .parseMeas) (hack : decode w ≠ .ok .parseAck) (hexec : exec i s = .next t) :
    sameResult s t := by
  obtain ⟨hwf, -⟩ := selects_of_decode hdecode
  obtain ⟨-, -, -, -, -, hwriters, -⟩ := eachElementHasItsWriters i s t hwf hexec
  by_contra hchanged
  obtain rfl | rfl := hwriters hchanged
  · exact hmeas hdecode
  · exact hack hdecode

/-- Settles O40: a legal transaction runs an instruction, here no PARSE, an illegal one writes ERR_INFO alone, and an idle
step writes no element. -/
theorem resultIsStaleUntilParseOrReset : Obligations.ResultIsStaleUntilParseOrReset := by
  refine ⟨fun s t w rest hpending hmeas hack hstep => ?transaction, fun s t hpending hstep => ?idle⟩
  case transaction =>
    obtain ⟨i, hdecode, hexec⟩ | ⟨c, -, rfl⟩ := step_transaction_cases hpending hstep
    · exact exec_sameResult_of_not_parse (s := s.setPending rest) hdecode hmeas hack hexec
    · exact ⟨rfl, rfl, rfl, rfl, rfl, rfl⟩
  case idle =>
    rw [step_of_no_event hpending] at hstep
    cases hstep
    exact ⟨rfl, rfl, rfl, rfl, rfl, rfl⟩

end Sys2Proof.Machine
end

section
/-! ### Only reset unbuilds -/

namespace Sys2Proof.Machine

/-- A command frame begins with the address 0xFE (30_encoding.md R60). -/
theorem commandFrame_ne_zero (f : Byte) (reg payload : Half) : commandFrame f reg payload ≠ Buf8.zero := by
  intro hzero
  have haddress : 0xFE#8 = 0x00#8 := congrArg Buf8.b0 hzero
  exact absurd haddress (by decide)

/-- No build places eight zero bytes (70_reset_and_hazards.md R144). -/
theorem builtFrame_ne_zero {i : Instr} {f : Buf8} {e : BitVec 4} (h : builtFrame i = some (f, e)) : f ≠ Buf8.zero := by
  obtain ⟨func, reg, payload, rfl⟩ := builtFrame_eq_commandFrame h
  exact commandFrame_ne_zero func reg payload

/-- NONE is no verdict of a PARSE (43_parser.md R104, R108). -/
theorem verdict_ne_none (s : State) (m : ParseMode) : verdict s m ≠ .none := by
  obtain ⟨hv, -⟩ | ⟨hv, -⟩ | ⟨hv, -⟩ | ⟨hv, -⟩ := verdict_cases s m <;> simp [hv]

/-- An instruction places a frame, which is 8 bytes and not all zero, or leaves the old one (41_frame_builder.md R76). -/
theorem ExecEffect.keeps_frame {i : Instr} {s t : State} (he : ExecEffect s i t) :
    (s.txLen ≠ 0#4 → t.txLen ≠ 0#4) ∧ (s.txBuf ≠ Buf8.zero → t.txBuf ≠ Buf8.zero) := by
  obtain ⟨f, e, hf, hbuf, hlen⟩ | ⟨hbuf, hlen⟩ := he.tx_cases <;> rw [hbuf, hlen]
  · exact ⟨fun _ => by decide, fun _ => builtFrame_ne_zero hf⟩
  · exact ⟨id, id⟩

/-- An instruction latches a verdict, which is never NONE, or leaves the old one (43_parser.md R108). -/
theorem ExecEffect.keeps_verdict {i : Instr} {s t : State} (he : ExecEffect s i t) (h : s.resCode ≠ .none) :
    t.resCode ≠ .none := by
  obtain ⟨m, rfl⟩ | ⟨hcode, -⟩ := he.result_cases
  · exact verdict_ne_none s m
  · rwa [hcode]

/-- Settles O41: a legal transaction runs an instruction, which keeps the frame and the verdict or places new ones, and an
illegal one writes ERR_INFO alone. -/
theorem onlyResetUnbuilds : Obligations.OnlyResetUnbuilds := by
  intro s t w rest hpending hstep
  obtain ⟨i, -, hexec⟩ | ⟨c, -, rfl⟩ := step_transaction_cases hpending hstep
  · have he := exec_effect hexec
    obtain ⟨hlen, hbuf⟩ := he.keeps_frame
    exact ⟨hlen, hbuf, he.keeps_verdict⟩
  · exact ⟨id, id, id⟩

/-- The third clause of O41 at a state that has a verdict: RX.CLEAR after a PARSE from reset. -/
theorem witness_onlyResetUnbuilds_resCode :
    ∃ s t : State, s.pending = [.transaction (encode .rxClear)] ∧ step s = .next t ∧ s.resCode ≠ .none ∧
      t.resCode ≠ .none := by
  have hverdict := verdict_ne_none State.reset .measurement
  obtain ⟨t, hexec⟩ := exec_completes .rxClear (parseFrame State.reset .measurement)
  have hstep : step ((parseFrame State.reset .measurement).issueNext (encode .rxClear)) = .next t :=
    (step_of_decode_ok rfl (decode_encode rfl)).trans hexec
  obtain ⟨-, -, hkeeps⟩ := onlyResetUnbuilds _ _ _ _ rfl hstep
  exact ⟨_, t, rfl, hstep, hverdict, hkeeps hverdict⟩

end Sys2Proof.Machine
end

/-! ## Proofs of the other statements: ACC belongs to the CRC engine, words written out from the encodings -/

section
/-! ### Only the CRC engine touches ACC -/

namespace Sys2Proof.Machine

/-- A push neither reads nor changes ACC (42_receive.md R92). -/
theorem pushByte_setAcc (s : State) (a : Half) (b : Byte) : pushByte (s.setAcc a) b = (pushByte s b).setAcc a := by
  by_cases hroom : s.rxCount < Config.rxCapacity <;> simp [pushByte, hroom] <;> rfl

/-- With another value in ACC, an instruction that is not the engine's does the same and leaves that value alone
(92_eei_decisions.md D15): the builds and the parser compute their checksums without ACC. -/
theorem exec_setAcc {i : Instr} {s t : State} (a : Half) (hinit : i ≠ .crcInit) (hbyte : ∀ b, i ≠ .crcByte b)
    (hrd : i ≠ .crcRd) (h : exec i s = .next t) : exec i (s.setAcc a) = .next (t.setAcc a) := by
  cases i with
  | crcInit => exact absurd rfl hinit
  | crcByte b => exact absurd rfl (hbyte b)
  | crcRd => exact absurd rfl hrd
  | buildSetcal d => obtain he | he := exec_buildSetcal_cases d <;> rw [he] at h ⊢ <;> cases h <;> rfl
  | explenWr d => obtain he | he := exec_explenWr_cases d <;> rw [he] at h ⊢ <;> cases h <;> rfl
  | rxPush b =>
    cases h
    simp only [exec, execRxPush, pushByte_setAcc]
    rfl
  | _ => cases h; rfl

/-- Settles O39: that ACC is kept is the case of `exec_setAcc` in which the other value is the one that stands there. -/
theorem onlyTheEngineTouchesAcc : Obligations.OnlyTheEngineTouchesAcc := by
  intro i s t a hinit hbyte hrd hexec
  have hsame : exec i s = .next (t.setAcc s.acc) := exec_setAcc s.acc hinit hbyte hrd hexec
  rw [hexec] at hsame
  injection hsame with ht
  exact ⟨(congrArg State.acc ht).trans (t.setAcc_acc s.acc), exec_setAcc a hinit hbyte hrd hexec⟩

end Sys2Proof.Machine
end

section
/-! ### Words written out from the encodings -/

namespace Sys2Proof

/-- Settles O12: three of the words are canonical, two hold ignored data bits at a register's offset, one names an
unaligned offset, and one fails the range check of EXP_LEN. -/
theorem decodeOfWrittenOutWords : Obligations.DecodeOfWrittenOutWords := by
  refine ⟨?crcByte, ?buildSetcal, ?rxPush, ?parseAck, ?errClear, ?misaligned, ?invalidParameter⟩
  case crcByte => exact decode_memWrite_offset .crcData 0xFFFFFF31#32
  case buildSetcal => exact decode_encode (i := .buildSetcal 180#32) (by decide)
  case rxPush => exact decode_encode (i := .rxPush 0xF4#8) rfl
  case parseAck => exact decode_encode (i := .parseAck) rfl
  case errClear => exact decode_memWrite_offset .errInfo 0xDEADBEEF#32
  case misaligned => exact decodeFields_of_misaligned (a := 0x4D#8) false 0#32 (by decide)
  case invalidParameter =>
    exact (decode_memWrite_offset .expLen 0x10#32).trans (decodeExpLen_of_illegal (by decide))

end Sys2Proof
end
